-- ==== Sys2Proof/Word.lean ====
section
/-! DEFINITION. The word types of the block: bytes, the 16-bit values of the configuration register and of subcommand opcodes, and
the 32-bit command word and scalar result (spec/00_scope.md R6: bits are numbered from 0 at the least significant bit). -/

namespace Sys2Proof

/-- A byte: 8 bits (R6). -/
abbrev Byte := BitVec 8

/-- A 16-bit value: a subcommand opcode or the value of `0x9017`. -/
abbrev HalfWord := BitVec 16

/-- A 32-bit value: a command word (R59) or the scalar result `VAL` (R18). -/
abbrev Word := BitVec 32

end Sys2Proof
end

