-- ==== Sys2Proof/Config.lean ====
section
/-! DEFINITION. What is fixed when the block is built (spec/00_scope.md R5), the shape of the transport port (spec/20_memory.md R35,
R36), and the free values: constants without a body that stand for what the spec leaves open (notes/assumptions/3.md, 6.md, 9.md). -/

namespace Sys2Proof

/-- `CFG_DATA_ORDER`: order of the two data bytes when `0x9017` is written back (R5, R57). -/
inductive DataOrder where
  | msbFirst
  | lsbFirst
deriving DecidableEq, Repr

/-- The parameters of the block (R5): fixed at construction, never written afterwards (R13, R14). -/
structure Params where
  /-- `DEV_ADDR`, the peripheral's bus address (R13). -/
  devAddr : BitVec 7
  /-- `RXBUF`, the most bytes one transport read may carry (R37). -/
  rxbuf : Nat
  /-- `TIMEOUT_MS`, handed to the transport as the deadline of a read (R14, R163). -/
  timeoutMs : Nat
  /-- `CFG_ADDR_BYTES`, the write-phase bytes that address `0x9017` (R57, D14). -/
  cfgAddrBytes : List Byte
  /-- `CFG_DATA_ORDER` (R57, D15). -/
  cfgDataOrder : DataOrder
  /-- `WR_BYTE_USES_SELECTOR`: whether WR_BYTE dispatches on the flag (R95, D12). -/
  wrByteUsesSelector : Bool
deriving DecidableEq, Repr

/-- The defaults of R5. -/
def Params.default : Params where
  devAddr := 0x08
  rxbuf := 32
  timeoutMs := 1000
  cfgAddrBytes := [0x17, 0x90]
  cfgDataOrder := .msbFirst
  wrByteUsesSelector := true

/-- The three kinds of transport error (R35, R150). -/
inductive TransportKind where
  | nack
  | timeout
  | busError
deriving DecidableEq, Repr

/-- One call of a transport primitive, as it leaves the block: `BusWriteRead` with its deadline argument (R35) or
`BusWrite` (R36). The address byte is not part of `wbytes` (R50). -/
inductive BusCall where
  | writeRead (addr : BitVec 7) (wbytes : List Byte) (rlen : Nat) (deadlineMs : Nat)
  | write (addr : BitVec 7) (wbytes : List Byte)
deriving DecidableEq, Repr

/-- What the transport answers: success, with the bytes of the read phase in the order received, or an error (R35, R36). -/
inductive BusAnswer where
  | ok (bytes : List Byte)
  | err (kind : TransportKind)
deriving DecidableEq, Repr, Inhabited

/-- One line of a transport trace: a call and the answer the block took (R192). -/
structure BusEvent where
  call : BusCall
  answer : BusAnswer
deriving DecidableEq, Repr

/-- The unconstrained oracle of D25, past the end of the script: what the transport and the device answer to a call, given the
model's draw counter and every transaction so far. A FREE VALUE (log 3): nothing is known of it. -/
opaque Config.busAnswer : Nat → List BusEvent → BusCall → BusAnswer

/-- `VAL` while it holds no defined value (R18). A FREE VALUE (log 6). -/
opaque Config.freeWord : Nat → Word

/-- `RLEN` while it holds no defined value (R19). A FREE VALUE (log 6). -/
opaque Config.freeLen : Nat → BitVec 6

/-- Byte number `i` drawn at a given count: a byte of `RBUF` that holds no defined value (R19), or a byte of a scripted answer that
the script leaves out. A FREE VALUE (log 4, 6, 9). -/
opaque Config.freeByte : Nat → Nat → Byte

end Sys2Proof
end

