-- ==== Sys2Proof/Machine/State.lean ====
section
/-! DEFINITION. The state of the block (spec/10_state.md R10), the environment it reads and writes, the errors an operation can end with
(spec/60_exceptions.md R150), and the state after reset (spec/70_reset_and_hazards.md R176). -/

namespace Sys2Proof.Machine

/-- The errors an operation can end with (R150); `DecodeError` never occurs and has no constructor. They are outcomes in STATUS (R158),
not faults of the machine. -/
inductive ErrorKind where
  /-- width out of range, read length over the transport buffer, or a reserved command word (R151) -/
  | argument
  /-- the transport answered with an error (R152 to R154) -/
  | transport (kind : TransportKind)
  /-- CRC mismatch on an integrity-protected read (R155) -/
  | integrity
deriving DecidableEq, Repr

/-- Why a read of a result register by the host stops, as R18, R19 and R176 say it must. The step raises none of these. -/
inductive Fault where
  /-- Raised by `State.hostVal`, and by a decoder through it, when VAL holds no defined value (R18, R176, U7). Safe: the read gives no value. -/
  | valUndefined
  /-- Raised by `State.hostRlen` when RLEN holds no defined value (R19, U7). Safe: the read gives no value. -/
  | rlenUndefined
  /-- Raised by `State.hostRbuf` when RBUF holds no defined value, or at an index at or above RLEN (R19, U7). Safe: the read
  gives no value. -/
  | rbufUndefined (index : Nat)
deriving DecidableEq, Repr

/-- Why an instruction is refused. -/
inductive Refusal where
  /-- Raised by an arm of `exec` whose instruction has no meaning yet; no arm of this model does. Safe: the machine stops. -/
  | notModelled (mnemonic : String)
deriving DecidableEq, Repr

/-- The block, its parameters, and its environment. Plain data. -/
structure State where
  /-- `acc`, the CRC accumulator the host drives (R11). -/
  acc : Byte
  /-- `integrity_enabled` (R12). -/
  integrityEnabled : Bool
  /-- `STATUS`, the outcome of the last operation that ended (R17). -/
  status : BitVec 4
  /-- `VAL`, the scalar result (R18). -/
  val : Word
  /-- `RLEN` (R19). -/
  rlen : BitVec 6
  /-- `RBUF[0..RXBUF-1]` (R19). -/
  rbuf : List Byte
  /-- `busy` (R22). -/
  busy : Bool
  /-- The parameters of R5, fixed at construction; no operation writes them (log 10). -/
  params : Params
  /-- ENVIRONMENT: the command words the host has still to issue, next first (R21, log 2). -/
  host : List Word
  /-- ENVIRONMENT: the answers the transport will give next (D25, log 3). -/
  script : List BusAnswer
  /-- OUTPUT: the transport calls made so far with their answers, oldest first (R192, log 5). -/
  trace : List BusEvent
  /-- MODEL: whether VAL holds a defined value (R18, log 6). -/
  valDefined : Bool
  /-- MODEL: whether RLEN, and RBUF below RLEN, hold defined values (R19, log 6). -/
  bufDefined : Bool
  /-- MODEL: how many free values have been drawn (log 15). -/
  nonce : Nat
deriving DecidableEq, Repr

/-- Construction of the block with given parameters, which is its one kind of reset (R175, R176): no transport call, nothing sent.
VAL and RBUF hold no defined value and are given zero: DESIGN CHOICE (log 7, 8). -/
def State.construct (p : Params) : State where
  acc := 0x00
  integrityEnabled := false
  status := 0
  val := 0
  rlen := 0
  rbuf := List.replicate p.rxbuf 0
  busy := false
  params := p
  host := []
  script := []
  trace := []
  valDefined := false
  bufDefined := true
  nonce := 0

/-- The block right after reset, with the default parameters (R5, R176). -/
def State.reset : State := State.construct Params.default

end Sys2Proof.Machine
end

