-- ==== Sys2Proof/Machine/Flags.lean ====
section
/-! DEFINITION. STATUS, the block's only condition register (spec/10_state.md R17): its codes (spec/60_exceptions.md R156) and the
collapsed view `fail` (R17, R158, R170). -/

namespace Sys2Proof.Machine

/-- The code of success (R156). -/
def statusOk : BitVec 4 := 0

/-- `code(Kind)` (R156). -/
def ErrorKind.code : ErrorKind → BitVec 4
  | .argument => 1
  | .transport .nack => 2
  | .transport .timeout => 3
  | .transport .busError => 4
  | .integrity => 5

/-- What STATUS says of the last operation: success, one error kind, or a code that is never written (R156). -/
inductive StatusMeaning where
  | success
  | error (kind : ErrorKind)
  | neverWritten
deriving DecidableEq, Repr

/-- STATUS read back (R156). -/
def statusMeaning (status : BitVec 4) : StatusMeaning :=
  if status = 0 then .success
  else if status = 1 then .error .argument
  else if status = 2 then .error (.transport .nack)
  else if status = 3 then .error (.transport .timeout)
  else if status = 4 then .error (.transport .busError)
  else if status = 5 then .error .integrity
  else .neverWritten

/-- `fail = (STATUS != 0)`, the single sentinel outcome (R17, R158). -/
def State.fail (s : State) : Bool := s.status != 0

end Sys2Proof.Machine
end

