-- ==== Sys2Proof/Machine/Operands.lean ====
section
/-! DEFINITION. Operand checks, scalar composition and wire frames (spec/30_encoding.md part 1, R61, R62; spec/41_register_access.md R86,
R88): everything an operation computes from its operands before and after the transport acts. -/

namespace Sys2Proof

/-- `zext_32` of a narrower value (R7). -/
def zext32 {n : Nat} (v : BitVec n) : Word := v.setWidth 32

/-- RD_SCALAR's check: `1 <= n <= 4` (R86). -/
def scalarCountOk (n : Byte) : Bool := 1 ≤ n.toNat && n.toNat ≤ 4

/-- How many bytes a read of `n` data bytes asks the transport for: the CRC byte counts when the flag is set (R86, R98). -/
def readLen (integrity : Bool) (n : Nat) : Nat := if integrity then n + 1 else n

/-- RD_BUF's checks: `n >= 1` and `rlen <= RXBUF` (R86). -/
def bufCountOk (rxbuf : Nat) (integrity : Bool) (n : Byte) : Bool :=
  1 ≤ n.toNat && readLen integrity n.toNat ≤ rxbuf

/-- Big-endian composition of the data bytes (R88): `value = Σ byte[i] << 8·(n-1-i)`. -/
def compose : List Byte → Word
  | [] => 0
  | d :: ds => (zext32 d <<< (8 * ds.length)) + compose ds

/-- `AR = (DEV_ADDR << 1) | 1` (R55). -/
def addrRead (addr : BitVec 7) : Byte := (addr.setWidth 8 <<< 1) ||| 1

/-- `AW = (DEV_ADDR << 1) | 0` (R55). -/
def addrWrite (addr : BitVec 7) : Byte := (addr.setWidth 8 <<< 1) ||| 0

/-- The CRC domain of a protected read (R52, R90): the write phase is not in it. -/
def readDomain (addr : BitVec 7) (data : List Byte) : List Byte := addrRead addr :: data

/-- The CRC domain of a protected write (R54, R57, R94): all of the write phase before the CRC. -/
def writeDomain (addr : BitVec 7) (wbytes : List Byte) : List Byte := addrWrite addr :: wbytes

/-- The write phase of a protected write: the CRC byte follows the last data byte (R54). -/
def protectedWrite (addr : BitVec 7) (wbytes : List Byte) : List Byte :=
  wbytes ++ [crc8 (writeDomain addr wbytes)]

/-- The write phase of a command with a 16-bit opcode: low byte first (R39, R56). -/
def cmd16Frame (op16 : HalfWord) : List Byte := [op16.extractLsb' 0 8, op16.extractLsb' 8 8]

/-- The two data bytes of a write-back of `0x9017` (R57, R111). -/
def cfgDataBytes (order : DataOrder) (w : HalfWord) : List Byte :=
  match order with
  | .msbFirst => [w.extractLsb' 8 8, w.extractLsb' 0 8]
  | .lsbFirst => [w.extractLsb' 0 8, w.extractLsb' 8 8]

/-- The value of `0x9017` from the two bytes received, big-endian (R57, R110). -/
def cfgValue (data : List Byte) : HalfWord := (compose data).setWidth 16

/-- INTEG_EN's change of the configuration value: bit 0 set, bits 15 to 1 kept (R112, R114). -/
def setBit0 (v : HalfWord) : HalfWord := v ||| 0x0001

/-- INTEG_DIS's change of the configuration value: bit 0 cleared, bits 15 to 1 kept (R113, R114). -/
def clearBit0 (v : HalfWord) : HalfWord := v &&& 0xFFFE

end Sys2Proof
end

