-- ==== Sys2Proof/Machine/Ops.lean ====
section
/-! DEFINITION. The named operations over the state: register writes, the end of an operation with success or with an error (the block's
exception entry, spec/60_exceptions.md R158), the two transport primitives (spec/20_memory.md R35, R36), and the framed accesses built on
them (spec/41_register_access.md R87 to R95, spec/42_command_and_mode.md R110, R111). -/

namespace Sys2Proof.Machine

/-! ## Register writes -/

/-- `acc <- v`. -/
def State.setAcc (v : Byte) (s : State) : State := { s with acc := v }

/-- `VAL <- v`; VAL now holds a defined value (R18). -/
def State.setVal (v : Word) (s : State) : State := { s with val := v, valDefined := true }

/-- `integrity_enabled <- b`. -/
def State.setIntegrity (b : Bool) (s : State) : State := { s with integrityEnabled := b }

/-- `n` bytes that hold no defined value, drawn at count `k`. -/
def freeBytes (k n : Nat) : List Byte := (List.range n).map (Config.freeByte k)

/-- `RLEN <- len(data)` and `RBUF[i] <- data[i]`; the bytes at index RLEN and above hold no defined value (R19, log 9). -/
def State.setBuf (data : List Byte) (s : State) : State :=
  { s with
    rlen := BitVec.ofNat 6 data.length
    rbuf := (data ++ freeBytes s.nonce s.params.rxbuf).take s.params.rxbuf
    bufDefined := true
    nonce := s.nonce + 1 }

/-! ## The start and the end of an operation -/

/-- The block takes a command word: `busy` is set, and the host goes on to the words after it (R22, R47). -/
def State.accept (rest : List Word) (s : State) : State := { s with busy := true, host := rest }

/-- `done(ok)` (R7): `STATUS <- 0` and `busy` clears (R22); every result register not written is unchanged (R18, R19). -/
def State.done (s : State) : State := { s with status := statusOk, busy := false }

/-- `raise Kind` (R7, R158): STATUS receives the code, `busy` clears, control goes nowhere, and VAL, RLEN and RBUF hold no defined value
(R18, R19, R99): free values (log 6). There is no return from it (R159): the block is at once ready for the next command. -/
def State.raise (e : ErrorKind) (s : State) : State :=
  { s with
    status := e.code
    busy := false
    val := Config.freeWord s.nonce
    rlen := Config.freeLen s.nonce
    rbuf := freeBytes s.nonce s.params.rxbuf
    valDefined := false
    bufDefined := false
    nonce := s.nonce + 1 }

/-- Ends an operation whose last step gave `r`: the first `raise` ends it (R118 (b)), else the result is stored and it is done. -/
def conclude {α : Type} (r : Except ErrorKind α × State) (store : α → State → State) : State :=
  match r with
  | (.error e, s) => s.raise e
  | (.ok x, s) => (store x s).done

/-- A reserved command word (R63): ArgumentError, no transport call. -/
def State.refuseWord (s : State) : State := s.raise .argument

/-! ## The transport primitives -/

/-- An answer in the form R35 and R36 give it: a read returns exactly `rlen` bytes (D9), a write none. A script that lists too few
bytes leaves the rest free, bytes past `rlen` are not taken (log 4). -/
def fitAnswer (k : Nat) (call : BusCall) (answer : BusAnswer) : BusAnswer :=
  match answer with
  | .err kind => .err kind
  | .ok bytes =>
    match call with
    | .writeRead _ _ rlen _ => .ok ((bytes ++ freeBytes k rlen).take rlen)
    | .write _ _ => .ok []

/-- What the environment answers to a call in this state: the next answer of the script, else whatever the oracle gives (D25). -/
def State.answerTo (s : State) (call : BusCall) : BusAnswer :=
  fitAnswer s.nonce call
    (match s.script with
     | answer :: _ => answer
     | [] => Config.busAnswer s.nonce s.trace call)

/-- One transport call is made and answered; nothing of it stays in the block (R23). -/
def State.transact (call : BusCall) (s : State) : State :=
  { s with
    script := s.script.tail
    trace := s.trace ++ [⟨call, s.answerTo call⟩]
    nonce := s.nonce + 1 }

/-- The call `BusWriteRead(DEV_ADDR, wbytes, rlen)` with its deadline (R35). -/
def State.readCall (s : State) (wbytes : List Byte) (rlen : Nat) : BusCall :=
  .writeRead s.params.devAddr wbytes rlen s.params.timeoutMs

/-- The call `BusWrite(DEV_ADDR, wbytes)` (R36). -/
def State.writeCall (s : State) (wbytes : List Byte) : BusCall := .write s.params.devAddr wbytes

/-- What a read's answer means to the operation (R89): the bytes received, or TransportError(kind) (R152 to R154). -/
def readOutcome (answer : BusAnswer) : Except ErrorKind (List Byte) :=
  match answer with
  | .err kind => .error (.transport kind)
  | .ok bytes => .ok bytes

/-- What a write's answer means to the operation (R93): nothing, or TransportError(kind) (R152 to R154). -/
def writeOutcome (answer : BusAnswer) : Except ErrorKind Unit :=
  match answer with
  | .err kind => .error (.transport kind)
  | .ok _ => .ok ()

/-- `BusWriteRead` (R35): one call, and the bytes received or the transport's error. -/
def busWriteRead (wbytes : List Byte) (rlen : Nat) (s : State) : Except ErrorKind (List Byte) × State :=
  (readOutcome (s.answerTo (s.readCall wbytes rlen)), s.transact (s.readCall wbytes rlen))

/-- `BusWrite` (R36): one call, and nothing or the transport's error. -/
def busWrite (wbytes : List Byte) (s : State) : Except ErrorKind Unit × State :=
  (writeOutcome (s.answerTo (s.writeCall wbytes)), s.transact (s.writeCall wbytes))

/-! ## Framed accesses -/

/-- `PlainRead(A, n)` (R89). -/
def plainRead (a : List Byte) (n : Nat) (s : State) : Except ErrorKind (List Byte) × State := busWriteRead a n s

/-- The check of a protected read (R90): the byte after the `n` data bytes is the CRC of the read domain. -/
def checkCrc (addr : BitVec 7) (n : Nat) (bytes : List Byte) : Except ErrorKind (List Byte) :=
  if bytes[n]? = some (crc8 (readDomain addr (bytes.take n))) then .ok (bytes.take n) else .error .integrity

/-- `ProtRead(A, n)` (R90). -/
def protRead (a : List Byte) (n : Nat) (s : State) : Except ErrorKind (List Byte) × State :=
  match busWriteRead a (n + 1) s with
  | (.error e, s') => (.error e, s')
  | (.ok bytes, s') => (checkCrc s.params.devAddr n bytes, s')

/-- `ReadBytes(A, n)`, the facade read (R87). -/
def readBytes (a : List Byte) (n : Nat) (s : State) : Except ErrorKind (List Byte) × State :=
  if s.integrityEnabled then protRead a n s else plainRead a n s

/-- `PlainWrite(A, D)` (R93). -/
def plainWrite (a d : List Byte) (s : State) : Except ErrorKind Unit × State := busWrite (a ++ d) s

/-- `ProtWrite(A, D)` (R94). -/
def protWrite (a d : List Byte) (s : State) : Except ErrorKind Unit × State :=
  busWrite (protectedWrite s.params.devAddr (a ++ d)) s

/-- `WriteBytes(A, D)`, the facade write of WR_BYTE (R95). -/
def writeBytes (a d : List Byte) (s : State) : Except ErrorKind Unit × State :=
  if s.integrityEnabled && s.params.wrByteUsesSelector then protWrite a d s else plainWrite a d s

/-- `CfgRead()` (R110). -/
def cfgRead (s : State) : Except ErrorKind HalfWord × State :=
  match readBytes s.params.cfgAddrBytes 2 s with
  | (.error e, s') => (.error e, s')
  | (.ok data, s') => (.ok (cfgValue data), s')

/-- `CfgWrite(w)` (R111): the variant follows the flag as it is before the toggle; `WR_BYTE_USES_SELECTOR` plays no part. -/
def cfgWrite (w : HalfWord) (s : State) : Except ErrorKind Unit × State :=
  if s.integrityEnabled then protWrite s.params.cfgAddrBytes (cfgDataBytes s.params.cfgDataOrder w) s
  else plainWrite s.params.cfgAddrBytes (cfgDataBytes s.params.cfgDataOrder w) s

/-- The read-modify-write of `0x9017` (R112, R113): the value read is changed by `change` and written back, always (D23); the value
written is the result. -/
def cfgModify (change : HalfWord → HalfWord) (s : State) : Except ErrorKind HalfWord × State :=
  match cfgRead s with
  | (.error e, s') => (.error e, s')
  | (.ok v, s') =>
    match cfgWrite (change v) s' with
    | (.error e, s'') => (.error e, s'')
    | (.ok _, s'') => (.ok (change v), s'')

end Sys2Proof.Machine
end

