-- ==== Sys2Proof/Machine/Command.lean ====
section
/-! DEFINITION. The meanings of CMD8 and CMD16 (spec/42_command_and_mode.md R105 to R108): no CRC byte in either setting of the flag. -/

namespace Sys2Proof.Machine

/-- CMD8 op (R106). -/
def execCmd8 (op : Byte) (s : State) : Host.Outcome State Fault Refusal :=
  .next (conclude (busWrite [op] s) (fun _ t => t))

/-- CMD16 op16 (R107): low byte first, and the high byte is sent even when it is zero. -/
def execCmd16 (op16 : HalfWord) (s : State) : Host.Outcome State Fault Refusal :=
  .next (conclude (busWrite (cmd16Frame op16) s) (fun _ t => t))

end Sys2Proof.Machine
end

