-- ==== Sys2Proof/Machine/CrcOps.lean ====
section
/-! DEFINITION. The meanings of CRC_INIT, CRC_BYTE and CRC_READ (spec/40_crc_engine.md R71 to R73). -/

namespace Sys2Proof.Machine

/-- CRC_INIT (R71): `acc <- 0x00`. -/
def execCrcInit (s : State) : Host.Outcome State Fault Refusal := .next (s.setAcc crcInitVal).done

/-- CRC_BYTE d (R72): one byte into the accumulator. -/
def execCrcByte (d : Byte) (s : State) : Host.Outcome State Fault Refusal := .next (s.setAcc (crcStep s.acc d)).done

/-- CRC_READ (R73): `VAL <- zext_32(acc)`. -/
def execCrcRead (s : State) : Host.Outcome State Fault Refusal := .next (s.setVal (zext32 s.acc)).done

end Sys2Proof.Machine
end

