-- ==== Sys2Proof/Machine/Integrity.lean ====
section
/-! DEFINITION. The meanings of INTEG_EN and INTEG_DIS (spec/42_command_and_mode.md R112 to R117): the flag is written only after both
transactions succeeded (R115), and VAL receives the value written back (D20). -/

namespace Sys2Proof.Machine

/-- INTEG_EN (R112). -/
def execIntegEn (s : State) : Host.Outcome State Fault Refusal :=
  .next (conclude (cfgModify setBit0 s) (fun w t => (t.setIntegrity true).setVal (zext32 w)))

/-- INTEG_DIS (R113). -/
def execIntegDis (s : State) : Host.Outcome State Fault Refusal :=
  .next (conclude (cfgModify clearBit0 s) (fun w t => (t.setIntegrity false).setVal (zext32 w)))

end Sys2Proof.Machine
end

