-- ==== Sys2Proof/Machine/RegAccess.lean ====
section
/-! DEFINITION. The meanings of RD_SCALAR, RD_BUF and WR_BYTE (spec/41_register_access.md R91, R92, R96). -/

namespace Sys2Proof.Machine

/-- RD_SCALAR reg, n (R91): the argument check precedes all bus activity (R86). -/
def execRdScalar (reg n : Byte) (s : State) : Host.Outcome State Fault Refusal :=
  .next (if scalarCountOk n then conclude (readBytes [reg] n.toNat s) (fun data t => (t.setVal (compose data)).setBuf data)
         else s.raise .argument)

/-- RD_BUF reg, n (R92): VAL is not written. -/
def execRdBuf (reg n : Byte) (s : State) : Host.Outcome State Fault Refusal :=
  .next (if bufCountOk s.params.rxbuf s.integrityEnabled n then conclude (readBytes [reg] n.toNat s) State.setBuf
         else s.raise .argument)

/-- WR_BYTE reg, v (R96): nothing is read back. -/
def execWrByte (reg v : Byte) (s : State) : Host.Outcome State Fault Refusal :=
  .next (conclude (writeBytes [reg] [v] s) (fun _ t => t))

end Sys2Proof.Machine
end

