-- ==== Sys2Proof/Syntax.lean ====
section
/-! DEFINITION. The ten operations of the block, one constructor per row of spec/opcode_table.json (spec/30_encoding.md R60). -/

namespace Sys2Proof

/-- An operation with its operands (R60, R61). Every operand is a byte field of the command word, `op16` two of them, so every
value of these types is one the encoding admits; whether a count is legal is checked when the operation runs (R61, R86). -/
inductive Instr where
  /-- CRC_INIT (R71). -/
  | crcInit
  /-- CRC_BYTE d (R72). -/
  | crcByte (d : Byte)
  /-- CRC_READ (R73). -/
  | crcRead
  /-- RD_SCALAR reg, n (R91). -/
  | rdScalar (reg n : Byte)
  /-- RD_BUF reg, n (R92). -/
  | rdBuf (reg n : Byte)
  /-- WR_BYTE reg, v (R96). -/
  | wrByte (reg v : Byte)
  /-- CMD8 op (R106). -/
  | cmd8 (op : Byte)
  /-- CMD16 op16 (R107). -/
  | cmd16 (op16 : HalfWord)
  /-- INTEG_EN (R112). -/
  | integEn
  /-- INTEG_DIS (R113). -/
  | integDis
deriving DecidableEq, Repr

end Sys2Proof
end

