-- ==== Sys2Proof/Machine/Dispatch.lean ====
section
/-! DEFINITION. One arm per operation (spec/30_encoding.md R60), each a direct call of its meaning. -/

namespace Sys2Proof.Machine

def exec (i : Instr) (s : State) : Host.Outcome State Fault Refusal :=
  match i with
  | .crcInit => Sys2Proof.Machine.execCrcInit s
  | .crcByte d => Sys2Proof.Machine.execCrcByte d s
  | .crcRead => Sys2Proof.Machine.execCrcRead s
  | .rdScalar reg n => Sys2Proof.Machine.execRdScalar reg n s
  | .rdBuf reg n => Sys2Proof.Machine.execRdBuf reg n s
  | .wrByte reg v => Sys2Proof.Machine.execWrByte reg v s
  | .cmd8 op => Sys2Proof.Machine.execCmd8 op s
  | .cmd16 op16 => Sys2Proof.Machine.execCmd16 op16 s
  | .integEn => Sys2Proof.Machine.execIntegEn s
  | .integDis => Sys2Proof.Machine.execIntegDis s

end Sys2Proof.Machine
end

