-- ==== Sys2Proof/Decode.lean ====
section
/-! DEFINITION. The command word (spec/30_encoding.md R59 to R63): the decoder, selecting a row by `(W & mask) = match` as R60 says,
and the encoder, written from the same field table. A word of no row is reserved (R63) and rejected by name. -/

namespace Sys2Proof

/-- `W[31:24]`, the operation code (R59). -/
def Word.opc (w : Word) : Byte := w.extractLsb' 24 8

/-- `W[23:16]`, the first operand byte (R59). -/
def Word.a (w : Word) : Byte := w.extractLsb' 16 8

/-- `W[15:8]`, the high byte of a 16-bit opcode (R59). -/
def Word.b (w : Word) : Byte := w.extractLsb' 8 8

/-- `W[7:0]`, the last operand byte (R59). -/
def Word.c (w : Word) : Byte := w.extractLsb' 0 8

/-- Why a command word is reserved (R63). -/
inductive Reserved where
  /-- its `opc` is not one of the ten -/
  | unknownOpc (opc : Byte)
  /-- its `opc` is one of the ten and a field the table shows as 0 is not 0 -/
  | nonzeroField (opc : Byte)
deriving DecidableEq, Repr

/-- One row of spec/opcode_table.json: mask, match, and how the operands are assembled (R62). -/
structure OpRow where
  mask : Word
  pattern : Word
  build : Word → Instr

/-- `op16 = (b << 8) | c` (R62). -/
def assembleOp16 (b c : Byte) : HalfWord := (b.setWidth 16 <<< 8) ||| c.setWidth 16

/-- The opcode map of R60, with the masks and matches of the table. -/
def opTable : List OpRow :=
  [ ⟨0xFFFFFFFF, 0x01000000, fun _ => .crcInit⟩,
    ⟨0xFFFFFF00, 0x02000000, fun w => .crcByte (Word.c w)⟩,
    ⟨0xFFFFFFFF, 0x03000000, fun _ => .crcRead⟩,
    ⟨0xFF00FF00, 0x10000000, fun w => .rdScalar (Word.a w) (Word.c w)⟩,
    ⟨0xFF00FF00, 0x11000000, fun w => .rdBuf (Word.a w) (Word.c w)⟩,
    ⟨0xFF00FF00, 0x12000000, fun w => .wrByte (Word.a w) (Word.c w)⟩,
    ⟨0xFFFFFF00, 0x20000000, fun w => .cmd8 (Word.c w)⟩,
    ⟨0xFFFF0000, 0x21000000, fun w => .cmd16 (assembleOp16 (Word.b w) (Word.c w))⟩,
    ⟨0xFFFFFFFF, 0x30000000, fun _ => .integEn⟩,
    ⟨0xFFFFFFFF, 0x31000000, fun _ => .integDis⟩ ]

/-- Whether a word selects a row: `(W & mask) = match` (R60). -/
def OpRow.selects (r : OpRow) (w : Word) : Bool := w &&& r.mask == r.pattern

/-- The operation a command word asks for, or why the word is reserved (R60, R63). Total on all 2^32 words. -/
def decode (w : Word) : Except Reserved Instr :=
  match opTable.find? (fun r => r.selects w) with
  | some r => .ok (r.build w)
  | none =>
    if opTable.any (fun r => Word.opc r.pattern == Word.opc w) then .error (.nonzeroField (Word.opc w))
    else .error (.unknownOpc (Word.opc w))

/-- A command word from its four fields, `opc` at `W[31:24]` (R59). -/
def commandWord (opc a b c : Byte) : Word :=
  (opc.setWidth 32 <<< 24) ||| (a.setWidth 32 <<< 16) ||| (b.setWidth 32 <<< 8) ||| c.setWidth 32

/-- The command word of an operation (R59, R60); a field the table shows as 0 is 0. -/
def encode : Instr → Word
  | .crcInit => commandWord 0x01 0 0 0
  | .crcByte d => commandWord 0x02 0 0 d
  | .crcRead => commandWord 0x03 0 0 0
  | .rdScalar reg n => commandWord 0x10 reg 0 n
  | .rdBuf reg n => commandWord 0x11 reg 0 n
  | .wrByte reg v => commandWord 0x12 reg 0 v
  | .cmd8 op => commandWord 0x20 0 0 op
  | .cmd16 op16 => commandWord 0x21 0 (op16.extractLsb' 8 8) (op16.extractLsb' 0 8)
  | .integEn => commandWord 0x30 0 0 0
  | .integDis => commandWord 0x31 0 0 0

/-- The command word that the low `nbits` bits of `w` are; every bit above `nbits` is 0. The port takes one 32-bit word and no
byte order is involved (log 16). -/
def tableWord (nbits w : Nat) : Word := BitVec.ofNat 32 (w % 2 ^ nbits)

/-- What the decoder reads from an instruction whose bits are `w`, numbered as spec/opcode_table.json numbers them. -/
def decodeTableWord (nbits w : Nat) : Option Instr :=
  match decode (tableWord nbits w) with
  | .ok i => some i
  | .error _ => none

end Sys2Proof
end

