-- ==== Sys2Proof/Machine/Fetch.lean ====
section
/-! DEFINITION. The command port (spec/10_state.md R21, R22): what the block finds there at the start of a step, and how a word is put
there from outside. -/

namespace Sys2Proof.Machine

/-- What the command port offers (R22). -/
inductive Request where
  /-- no word is taken: the block is busy (R22), or the host issues none (R178); the block waits -/
  | wait
  /-- the word asks for an operation, and the state is the block with the word taken -/
  | run (i : Instr) (taken : State)
  /-- the word is reserved (R63), and the state is the block with the word taken -/
  | reserved (why : Reserved) (taken : State)

/-- The command port at the start of a step: the host's next word is taken and decoded, unless the block is busy (R21, R22). -/
def State.fetch (s : State) : Request :=
  if s.busy then .wait
  else
    match s.host with
    | [] => .wait
    | w :: rest =>
      match decode w with
      | .ok i => .run i (s.accept rest)
      | .error why => .reserved why (s.accept rest)

/-- The host issues a word before all others, and the block is free to take it (R22). -/
def State.issue (w : Word) (s : State) : State := { s with host := w :: s.host, busy := false }

end Sys2Proof.Machine
end

