-- ==== Sys2Proof/Machine/Step.lean ====
section
/-! DEFINITION. One step: the block takes one command word and performs the whole operation it asks for, transport calls and all
(spec/10_state.md R21 permits an operation as one atomic step; log 1). -/

namespace Sys2Proof.Machine

/-- One step of the block. With no word to take, or while `busy`, the block waits (R22, R178); a reserved word ends with ArgumentError
(R63). -/
def step (s : State) : Host.Outcome State Fault Refusal :=
  match s.fetch with
  | .wait => .next s
  | .run i taken => exec i taken
  | .reserved _ taken => .next taken.refuseWord

/-- The state in which the host issues, as its next word, the command word with these bits (log 2, 16). -/
def State.withFetchWord (s : State) (nbits w : Nat) : State := s.issue (tableWord nbits w)

end Sys2Proof.Machine
end

