-- ==== Sys2Proof/Machine/HostPort.lean ====
section
/-! DEFINITION. The host's reads of the result registers (spec/10_state.md R12, R16 to R19). A read of a register that holds no defined
value is a fault, as R18, R19, R176 of spec/70_reset_and_hazards.md, D22 and U7 say (log 6). No operation reads these registers, so no step
reaches these faults. -/

namespace Sys2Proof.Machine

/-- The host reads STATUS (R17). -/
def State.hostStatus (s : State) : BitVec 4 := s.status

/-- The host reads `integrity_enabled`; it cannot write it (R12, D6). -/
def State.hostIntegrity (s : State) : Bool := s.integrityEnabled

/-- The host reads VAL; with no defined value the read faults (R18, R176). -/
def State.hostVal (s : State) : Except Fault Word :=
  if s.valDefined then .ok s.val else .error .valUndefined

/-- The host reads RLEN; with no defined value the read faults (R19, R176). -/
def State.hostRlen (s : State) : Except Fault (BitVec 6) :=
  if s.bufDefined then .ok s.rlen else .error .rlenUndefined

/-- The host reads `RBUF[i]`: defined below RLEN only, and else the read faults (R19, R176). -/
def State.hostRbuf (s : State) (i : Nat) : Except Fault Byte :=
  match if s.bufDefined && i < s.rlen.toNat then s.rbuf[i]? else none with
  | some b => .ok b
  | none => .error (.rbufUndefined i)

end Sys2Proof.Machine
end

