-- ==== Sys2Proof/Machine/StatusDecode.lean ====
section
/-! DEFINITION. The direct register map (spec/20_memory.md R31) and the status decoders (spec/45_status_decode.md R125 to R140): pure
functions of the value a scalar read returned, and what a decoder reports of a state. -/

namespace Sys2Proof.Machine

/-! ## The records -/

/-- Safety Alert A (R127): bits 1 and 0 are not named. -/
structure SafetyAlertA where
  cov : Bool
  cuv : Bool
  scd : Bool
  ocd1 : Bool
  ocd2 : Bool
  occ : Bool
deriving DecidableEq, Repr

/-- Safety Fault A (R127). -/
structure SafetyFaultA where
  cov : Bool
  cuv : Bool
  scd : Bool
  ocd1 : Bool
  ocd2 : Bool
  occ : Bool
  curlatch : Bool
  regout : Bool
deriving DecidableEq, Repr

/-- Safety Alert B and Safety Fault B (R128): bit 2 is not named. -/
structure SafetyB where
  otd : Bool
  otc : Bool
  utd : Bool
  utc : Bool
  otint : Bool
  vref : Bool
  vss : Bool
deriving DecidableEq, Repr

/-- Security level (R131). -/
inductive Security where
  | uninitialized
  | fullAccess
  | error
  | sealed
deriving DecidableEq, Repr

/-- Device mode (R132). `unknown` is a member of the type that no decode produces (R133). -/
inductive DeviceMode where
  | normal
  | configure
  | shutdown
  | unknown
deriving DecidableEq, Repr

/-- Battery Status (R130): bits 14, 9, 6 and 0 are not named. -/
structure BatteryStatus where
  normal : Bool
  safetyAlert : Bool
  safetyFault : Bool
  security : Security
  fetCtrl : Bool
  ramReset : Bool
  configMode : Bool
  alertPin : Bool
  chgDrv : Bool
  dsgDrv : Bool
  chgDet : Bool
  mode : DeviceMode
deriving DecidableEq, Repr

/-- Alarm Status, Alarm Status Raw and Alarm Enable mask (R134): bits 8, 5, 4 and 3 are not named. -/
structure AlarmBits where
  ssa : Bool
  ssb : Bool
  saa : Bool
  sab : Bool
  xchg : Bool
  xdsg : Bool
  shutv : Bool
  check1 : Bool
  check2 : Bool
  initcomp : Bool
  cdtoggle : Bool
  por : Bool
deriving DecidableEq, Repr

/-- FET Control (R136): bits 7 to 4 are not named. -/
structure FetControl where
  chgOff : Bool
  dsgOff : Bool
  chgOn : Bool
  dsgOn : Bool
deriving DecidableEq, Repr

/-- Regulator output voltage (R138): five values. -/
inductive Voltage where
  | v1_8
  | v2_5
  | v3_0
  | v3_3
  | v5_0
deriving DecidableEq, Repr

/-- REGOUT Control (R137): bits 7 to 5 are not named. -/
structure Regout where
  tsOn : Bool
  regEn : Bool
  voltage : Voltage
deriving DecidableEq, Repr

/-! ## The decoders -/

/-- `dec_safety_a` for Safety Alert A (R127). -/
def decSafetyAlertA (x : Byte) : SafetyAlertA where
  cov := x.getLsbD 7
  cuv := x.getLsbD 6
  scd := x.getLsbD 5
  ocd1 := x.getLsbD 4
  ocd2 := x.getLsbD 3
  occ := x.getLsbD 2

/-- `dec_safety_a` for Safety Fault A (R127). -/
def decSafetyFaultA (x : Byte) : SafetyFaultA where
  cov := x.getLsbD 7
  cuv := x.getLsbD 6
  scd := x.getLsbD 5
  ocd1 := x.getLsbD 4
  ocd2 := x.getLsbD 3
  occ := x.getLsbD 2
  curlatch := x.getLsbD 1
  regout := x.getLsbD 0

/-- `dec_safety_b` (R128). -/
def decSafetyB (x : Byte) : SafetyB where
  otd := x.getLsbD 7
  otc := x.getLsbD 6
  utd := x.getLsbD 5
  utc := x.getLsbD 4
  otint := x.getLsbD 3
  vref := x.getLsbD 1
  vss := x.getLsbD 0

/-- The security level of a two-bit code (R131); all four codes are assigned. -/
def decSecurity (code : BitVec 2) : Security :=
  if code = 0 then .uninitialized
  else if code = 1 then .fullAccess
  else if code = 2 then .error
  else .sealed

/-- The truth table of R132: the mode from NORMAL and CONFIG_MODE. -/
def decMode (normal configure : Bool) : DeviceMode :=
  match normal, configure with
  | true, false => .normal
  | true, true => .configure
  | false, _ => .shutdown

/-- `dec_battery_status` (R130). -/
def decBatteryStatus (x : HalfWord) : BatteryStatus where
  normal := x.getLsbD 15
  safetyAlert := x.getLsbD 13
  safetyFault := x.getLsbD 12
  security := decSecurity (x.extractLsb' 10 2)
  fetCtrl := x.getLsbD 8
  ramReset := x.getLsbD 7
  configMode := x.getLsbD 5
  alertPin := x.getLsbD 4
  chgDrv := x.getLsbD 3
  dsgDrv := x.getLsbD 2
  chgDet := x.getLsbD 1
  mode := decMode (x.getLsbD 15) (x.getLsbD 5)

/-- `dec_alarm` (R134), the same for the three alarm registers (R135). -/
def decAlarm (x : HalfWord) : AlarmBits where
  ssa := x.getLsbD 15
  ssb := x.getLsbD 14
  saa := x.getLsbD 13
  sab := x.getLsbD 12
  xchg := x.getLsbD 11
  xdsg := x.getLsbD 10
  shutv := x.getLsbD 9
  check1 := x.getLsbD 7
  check2 := x.getLsbD 6
  initcomp := x.getLsbD 2
  cdtoggle := x.getLsbD 1
  por := x.getLsbD 0

/-- `dec_fet_control` (R136). -/
def decFetControl (x : Byte) : FetControl where
  chgOff := x.getLsbD 3
  dsgOff := x.getLsbD 2
  chgOn := x.getLsbD 1
  dsgOn := x.getLsbD 0

/-- The voltage of a three-bit selector (R138); all eight codes are assigned. -/
def decVoltage (code : BitVec 3) : Voltage :=
  if code = 4 then .v2_5
  else if code = 5 then .v3_0
  else if code = 6 then .v3_3
  else if code = 7 then .v5_0
  else .v1_8

/-- `dec_regout` (R137). -/
def decRegout (x : Byte) : Regout where
  tsOn := x.getLsbD 4
  regEn := x.getLsbD 3
  voltage := decVoltage (x.extractLsb' 0 3)

/-! ## The register map and the reading of a decoder's result -/

/-- The ten direct registers of R31. -/
inductive DirectReg where
  | safetyAlertA
  | safetyFaultA
  | safetyAlertB
  | safetyFaultB
  | batteryStatus
  | alarmStatus
  | alarmStatusRaw
  | alarmEnable
  | fetControl
  | regoutControl
deriving DecidableEq, Repr

/-- The opcode of a direct register (R31). The framer does not hold this table (R31, R41). -/
def DirectReg.opcode : DirectReg → Byte
  | .safetyAlertA => 0x02
  | .safetyFaultA => 0x03
  | .safetyAlertB => 0x04
  | .safetyFaultB => 0x05
  | .batteryStatus => 0x12
  | .alarmStatus => 0x62
  | .alarmStatusRaw => 0x64
  | .alarmEnable => 0x66
  | .fetControl => 0x68
  | .regoutControl => 0x69

/-- The width of a direct register in bytes (R31). -/
def DirectReg.width : DirectReg → Byte
  | .safetyAlertA => 1
  | .safetyFaultA => 1
  | .safetyAlertB => 1
  | .safetyFaultB => 1
  | .batteryStatus => 2
  | .alarmStatus => 2
  | .alarmStatusRaw => 2
  | .alarmEnable => 2
  | .fetControl => 1
  | .regoutControl => 1

/-- A decoded record; the three alarm records, and the two of Safety B, differ in name only (R128, R135). -/
inductive StatRecord where
  | safetyAlertA (r : SafetyAlertA)
  | safetyFaultA (r : SafetyFaultA)
  | safetyAlertB (r : SafetyB)
  | safetyFaultB (r : SafetyB)
  | batteryStatus (r : BatteryStatus)
  | alarmStatus (r : AlarmBits)
  | alarmStatusRaw (r : AlarmBits)
  | alarmEnable (r : AlarmBits)
  | fetControl (r : FetControl)
  | regoutControl (r : Regout)
deriving DecidableEq, Repr

/-- What a decoder reports: a record, or the one outcome of a failed read (R129, D24). -/
inductive StatResult where
  | readFailed
  | record (r : StatRecord)
deriving DecidableEq, Repr

/-- The record of a register from VAL (R125): `VAL[7:0]` for a one-byte register, `VAL[15:0]` for a two-byte one. -/
def DirectReg.decode (r : DirectReg) (val : Word) : StatRecord :=
  match r with
  | .safetyAlertA => .safetyAlertA (decSafetyAlertA (val.extractLsb' 0 8))
  | .safetyFaultA => .safetyFaultA (decSafetyFaultA (val.extractLsb' 0 8))
  | .safetyAlertB => .safetyAlertB (decSafetyB (val.extractLsb' 0 8))
  | .safetyFaultB => .safetyFaultB (decSafetyB (val.extractLsb' 0 8))
  | .batteryStatus => .batteryStatus (decBatteryStatus (val.extractLsb' 0 16))
  | .alarmStatus => .alarmStatus (decAlarm (val.extractLsb' 0 16))
  | .alarmStatusRaw => .alarmStatusRaw (decAlarm (val.extractLsb' 0 16))
  | .alarmEnable => .alarmEnable (decAlarm (val.extractLsb' 0 16))
  | .fetControl => .fetControl (decFetControl (val.extractLsb' 0 8))
  | .regoutControl => .regoutControl (decRegout (val.extractLsb' 0 8))

/-- What a decoder reports of the read that ended in this state: it looks at STATUS and VAL only (R140), and not at VAL when the read
failed (R129). It reads VAL as the host does, so where STATUS is 0 and VAL holds no defined value (after reset, or after a failure and
then a success that does not write VAL) it faults and reports nothing (R18, R176, U7). R125 and R129 speak of the state after the
decoder's own read only; that the fault of R18 holds here too is DEDUCED (log 20). -/
def DirectReg.report (r : DirectReg) (s : State) : Except Fault StatResult :=
  if s.fail then .ok .readFailed else s.hostVal.map (fun v => .record (r.decode v))

end Sys2Proof.Machine
end

