-- ==== Sys2Proof/Machine/Pseudo.lean ====
section
/-! DEFINITION. The subcommands (spec/20_memory.md R32, spec/42_command_and_mode.md R109) and the pseudo-operations with their expansions
(spec/30_encoding.md R66). -/

namespace Sys2Proof.Machine

/-- The five subcommands in scope (R32). -/
inductive Subcommand where
  | reset
  | toggleFetControl
  | sealDevice
  | enterConfigUpdate
  | exitConfigUpdate
deriving DecidableEq, Repr

/-- The 16-bit opcode of a subcommand (R32). -/
def Subcommand.opcode : Subcommand → HalfWord
  | .reset => 0x0012
  | .toggleFetControl => 0x0022
  | .sealDevice => 0x0030
  | .enterConfigUpdate => 0x0090
  | .exitConfigUpdate => 0x0092

/-- The pseudo-operations of R66: RESET, FET_TOGGLE, SEAL, CFG_ENTER and CFG_EXIT; CRC8; and the ten STAT_. -/
inductive Pseudo where
  | send (c : Subcommand)
  | crc8 (span : List Byte)
  | stat (r : DirectReg)
deriving DecidableEq, Repr

/-- The core operations a pseudo-operation stands for (R66); a STAT_ is followed by its decoder, see `Pseudo.report`. -/
def Pseudo.expand : Pseudo → List Instr
  | .send c => [.cmd16 c.opcode]
  | .crc8 span => .crcInit :: (span.map Instr.crcByte ++ [.crcRead])
  | .stat r => [.rdScalar r.opcode r.width]

/-- Operations performed one after the other, in the order of issue (R44). -/
def runAll : List Instr → State → Host.Outcome State Fault Refusal
  | [], s => .next s
  | i :: is, s =>
    match exec i s with
    | .next s' => runAll is s'
    | .fault r => .fault r
    | .refused r => .refused r

/-- A pseudo-operation performed (R66). -/
def Pseudo.run (p : Pseudo) (s : State) : Host.Outcome State Fault Refusal := runAll p.expand s

/-- What a STAT_ reports once it has run: the decoder applied to the outcome of the read (R66, R129); the others report nothing. -/
def Pseudo.report (p : Pseudo) (s : State) : Option (Except Fault StatResult) :=
  match p with
  | .stat r => some (r.report s)
  | .send _ => none
  | .crc8 _ => none

end Sys2Proof.Machine
end

