-- ==== Sys2Proof/Machine/Asm.lean ====
section
/-! DEFINITION. The written form of operations and pseudo-operations (spec/30_encoding.md R66): a mnemonic, then its operands separated
by commas, numbers in hexadecimal with `0x` or in decimal. Spaces around operands are ignored, and a number too large for its field
is rejected: DESIGN CHOICE (log 17). -/

namespace Sys2Proof.Machine

/-! ## Reading -/

/-- The value of a digit. -/
def digitValue (c : Char) : Option Nat :=
  if 48 ≤ c.toNat && c.toNat ≤ 57 then some (c.toNat - 48)
  else if 65 ≤ c.toNat && c.toNat ≤ 70 then some (c.toNat - 55)
  else if 97 ≤ c.toNat && c.toNat ≤ 102 then some (c.toNat - 87)
  else none

/-- The value of a run of digits in a base, after `acc`. -/
def digitsValue (base : Nat) : List Char → Nat → Option Nat
  | [], acc => some acc
  | c :: cs, acc =>
    match digitValue c with
    | some d => if d < base then digitsValue base cs (acc * base + d) else none
    | none => none

/-- A number: hexadecimal with `0x`, or decimal (R66). -/
def parseNumber : List Char → Option Nat
  | [] => none
  | '0' :: 'x' :: d :: ds => digitsValue 16 (d :: ds) 0
  | d :: ds => digitsValue 10 (d :: ds) 0

/-- Without the spaces at either end. -/
def trimSpaces (cs : List Char) : List Char :=
  ((cs.dropWhile (· == ' ')).reverse.dropWhile (· == ' ')).reverse

/-- The parts between commas. -/
def splitCommas : List Char → List (List Char)
  | [] => [[]]
  | c :: cs =>
    match splitCommas cs with
    | part :: parts => if c = ',' then [] :: part :: parts else (c :: part) :: parts
    | [] => [[c]]

/-- The operands of a line; no text, no operands. -/
def parseOperands (cs : List Char) : Option (List Nat) :=
  match cs with
  | [] => some []
  | c :: rest => (splitCommas (c :: rest)).mapM (fun part => parseNumber (trimSpaces part))

/-- A number as an operand of `w` bits, when it fits. -/
def operandOf (w n : Nat) : Option (BitVec w) := if n < 2 ^ w then some (BitVec.ofNat w n) else none

/-- One line of text: a core operation or a pseudo-operation. -/
inductive AsmLine where
  | op (i : Instr)
  | pseudo (p : Pseudo)
deriving DecidableEq, Repr

/-- The operations a line stands for (R66). -/
def AsmLine.expand : AsmLine → List Instr
  | .op i => [i]
  | .pseudo p => p.expand

/-- The core operations written with no operand. -/
def parseNoOperand (m : String) : Option AsmLine :=
  match m with
  | "CRC_INIT" => some (.op .crcInit)
  | "CRC_READ" => some (.op .crcRead)
  | "INTEG_EN" => some (.op .integEn)
  | "INTEG_DIS" => some (.op .integDis)
  | "RESET" => some (.pseudo (.send .reset))
  | "FET_TOGGLE" => some (.pseudo (.send .toggleFetControl))
  | "SEAL" => some (.pseudo (.send .sealDevice))
  | "CFG_ENTER" => some (.pseudo (.send .enterConfigUpdate))
  | "CFG_EXIT" => some (.pseudo (.send .exitConfigUpdate))
  | "STAT_SAFETY_ALERT_A" => some (.pseudo (.stat .safetyAlertA))
  | "STAT_SAFETY_FAULT_A" => some (.pseudo (.stat .safetyFaultA))
  | "STAT_SAFETY_ALERT_B" => some (.pseudo (.stat .safetyAlertB))
  | "STAT_SAFETY_FAULT_B" => some (.pseudo (.stat .safetyFaultB))
  | "STAT_BATTERY" => some (.pseudo (.stat .batteryStatus))
  | "STAT_ALARM" => some (.pseudo (.stat .alarmStatus))
  | "STAT_ALARM_RAW" => some (.pseudo (.stat .alarmStatusRaw))
  | "STAT_ALARM_ENABLE" => some (.pseudo (.stat .alarmEnable))
  | "STAT_FET_CONTROL" => some (.pseudo (.stat .fetControl))
  | "STAT_REGOUT" => some (.pseudo (.stat .regoutControl))
  | _ => none

/-- The operations written with one operand. -/
def parseOneOperand (m : String) (x : Nat) : Option AsmLine :=
  match m with
  | "CRC_BYTE" => (operandOf 8 x).map (fun d => .op (.crcByte d))
  | "CMD8" => (operandOf 8 x).map (fun op => .op (.cmd8 op))
  | "CMD16" => (operandOf 16 x).map (fun op16 => .op (.cmd16 op16))
  | _ => none

/-- The operations written with two operands. -/
def parseTwoOperands (m : String) (x y : Nat) : Option AsmLine :=
  match operandOf 8 x, operandOf 8 y with
  | some reg, some v =>
    match m with
    | "RD_SCALAR" => some (.op (.rdScalar reg v))
    | "RD_BUF" => some (.op (.rdBuf reg v))
    | "WR_BYTE" => some (.op (.wrByte reg v))
    | _ => none
  | _, _ => none

/-- A mnemonic with its operands (R66); `CRC8` takes one or more. -/
def parseWith (m : String) (operands : List Nat) : Option AsmLine :=
  if m = "CRC8" then
    if operands.isEmpty then none else (operands.mapM (operandOf 8)).map (fun span => .pseudo (.crc8 span))
  else
    match operands with
    | [] => parseNoOperand m
    | [x] => parseOneOperand m x
    | [x, y] => parseTwoOperands m x y
    | _ => none

/-- A line of text read (R66); none when it is not of the form. -/
def parseLine (line : String) : Option AsmLine :=
  match parseOperands (trimSpaces ((trimSpaces line.toList).dropWhile (· != ' '))) with
  | some operands => parseWith (String.ofList ((trimSpaces line.toList).takeWhile (· != ' '))) operands
  | none => none

/-! ## Writing -/

/-- A hexadecimal digit. -/
def hexDigit (d : BitVec 4) : Char :=
  if d.toNat < 10 then Char.ofNat (48 + d.toNat) else Char.ofNat (55 + d.toNat)

/-- A byte as two hexadecimal digits. -/
def hexDigits (b : Byte) : List Char := [hexDigit (b.extractLsb' 4 4), hexDigit (b.extractLsb' 0 4)]

/-- A byte written with `0x` (R66). -/
def showByte (b : Byte) : List Char := '0' :: 'x' :: hexDigits b

/-- A 16-bit opcode written with `0x` (R66). -/
def showHalf (v : HalfWord) : List Char := '0' :: 'x' :: (hexDigits (v.extractLsb' 8 8) ++ hexDigits (v.extractLsb' 0 8))

/-- The mnemonic of an operation (R60). -/
def mnemonic : Instr → String
  | .crcInit => "CRC_INIT"
  | .crcByte _ => "CRC_BYTE"
  | .crcRead => "CRC_READ"
  | .rdScalar _ _ => "RD_SCALAR"
  | .rdBuf _ _ => "RD_BUF"
  | .wrByte _ _ => "WR_BYTE"
  | .cmd8 _ => "CMD8"
  | .cmd16 _ => "CMD16"
  | .integEn => "INTEG_EN"
  | .integDis => "INTEG_DIS"

/-- The operands of an operation as written (R66). -/
def showOperands : Instr → List Char
  | .crcInit => []
  | .crcByte d => ' ' :: showByte d
  | .crcRead => []
  | .rdScalar reg n => ' ' :: (showByte reg ++ ',' :: ' ' :: showByte n)
  | .rdBuf reg n => ' ' :: (showByte reg ++ ',' :: ' ' :: showByte n)
  | .wrByte reg v => ' ' :: (showByte reg ++ ',' :: ' ' :: showByte v)
  | .cmd8 op => ' ' :: showByte op
  | .cmd16 op16 => ' ' :: showHalf op16
  | .integEn => []
  | .integDis => []

/-- An operation as a line of text (R66). -/
def showInstr (i : Instr) : String := mnemonic i ++ String.ofList (showOperands i)

end Sys2Proof.Machine
end

