-- ==== Sys2Proof/WellFormed.lean ====
section
/-! DEFINITION. What is well formed: an operation whose operands are legal on a block with a given buffer limit and flag
(spec/30_encoding.md R61, spec/41_register_access.md R86), and a set of parameters (spec/00_scope.md R5). An operation that is not well
formed still decodes and runs: it ends with ArgumentError (R61), so no statement about encodings needs this check. -/

namespace Sys2Proof

/-- Whether every operand of an operation is legal (R61): the checks R86 makes before any transport call. -/
def Instr.wellFormed (rxbuf : Nat) (integrity : Bool) : Instr → Bool
  | .crcInit => true
  | .crcByte _ => true
  | .crcRead => true
  | .rdScalar _ n => scalarCountOk n
  | .rdBuf _ n => bufCountOk rxbuf integrity n
  | .wrByte _ _ => true
  | .cmd8 _ => true
  | .cmd16 _ => true
  | .integEn => true
  | .integDis => true

/-- Whether parameters are ones R5 admits: one or two configuration address bytes, and a buffer limit that holds a protected scalar read
(R37, R91) and that RLEN's 6 bits can count (R19). DEDUCED (log 11). -/
def Params.wellFormed (p : Params) : Bool :=
  5 ≤ p.rxbuf && p.rxbuf ≤ 63 && 1 ≤ p.cfgAddrBytes.length && p.cfgAddrBytes.length ≤ 2

end Sys2Proof
end

