-- ==== Sys2Proof/Safety.lean ====
section
/-! DEFINITION. What counts as a sound state of the block and a sound transport trace: the invariants the claims name. -/

namespace Sys2Proof.Machine

/-- A transport call the framer may make (spec/20_memory.md R37, spec/10_state.md R13): to `DEV_ADDR`; a read with the construction's
deadline, of 1 to RXBUF bytes, after at most two address bytes; a write of one to five bytes. -/
def callSound (p : Params) (call : BusCall) : Prop :=
  match call with
  | .writeRead addr wbytes rlen deadline =>
    addr = p.devAddr ∧ deadline = p.timeoutMs ∧ 1 ≤ rlen ∧ rlen ≤ p.rxbuf ∧ 1 ≤ wbytes.length ∧ wbytes.length ≤ 2
  | .write addr wbytes => addr = p.devAddr ∧ 1 ≤ wbytes.length ∧ wbytes.length ≤ 5

/-- An answer a transport gives to a call (R35, R36, D9): exactly `rlen` bytes to a read, none to a write, or an error. -/
def answerSound (call : BusCall) (answer : BusAnswer) : Prop :=
  match answer with
  | .err _ => True
  | .ok bytes =>
    match call with
    | .writeRead _ _ rlen _ => bytes.length = rlen
    | .write _ _ => bytes = []

/-- Every transaction of the trace is one the framer may make and the transport may answer so. -/
def State.traceSound (s : State) : Prop :=
  ∀ e ∈ s.trace, callSound s.params e.call ∧ answerSound e.call e.answer

/-- A sound state between operations: parameters R5 admits; not busy (R22); RBUF has RXBUF bytes and a defined RLEN is at most
RXBUF (R19); STATUS is a code that is written (R156); and after a failure no result register is defined (R18, R19). -/
structure State.Sound (s : State) : Prop where
  params : s.params.wellFormed = true
  idle : s.busy = false
  rbufLength : s.rbuf.length = s.params.rxbuf
  rlenBound : s.bufDefined = true → s.rlen.toNat ≤ s.params.rxbuf
  statusCode : s.status.toNat ≤ 5
  failedUndefined : s.status ≠ 0 → s.valDefined = false ∧ s.bufDefined = false

end Sys2Proof.Machine
end

