-- ==== Sys2Proof/Certificates/Slice0/Obligations.lean ====
section
/-! DEFINITION. The statements for the provers, and the words they are written with. The block has no memory (spec/20_memory.md, its
opening), so a frame speaks of the registers, the parameters, the host's words, and the transport trace. A statement about a register
that holds no defined value says so (`valDefined`, `bufDefined`) and nothing of the free value in it; nothing is said of `nonce`.

R20, R62, R75 to R79, R97, R98, R116, R139, R157, R168, R170, R178 and R192 stand in the spec as its own inferences ("[derived: …]"): a
statement of one of them says so in its title and has basis 'derived'. -/

namespace Sys2Proof.Claims

open Sys2Proof.Machine

/-! ## Words -/

/-- The parameters and the host's list are as before. -/
def keepsFixed (s t : State) : Prop := t.params = s.params ∧ t.host = s.host

/-- The CRC accumulator and the flag are as before. -/
def keepsControl (s t : State) : Prop := t.acc = s.acc ∧ t.integrityEnabled = s.integrityEnabled

/-- VAL is as before (R18). -/
def keepsVal (s t : State) : Prop := t.val = s.val ∧ t.valDefined = s.valDefined

/-- RLEN and RBUF are as before (R19). -/
def keepsBuf (s t : State) : Prop := t.rlen = s.rlen ∧ t.rbuf = s.rbuf ∧ t.bufDefined = s.bufDefined

/-- VAL holds the defined value `v`. -/
def valIs (t : State) (v : Word) : Prop := t.val = v ∧ t.valDefined = true

/-- RLEN is the number of `data`, RBUF has RXBUF bytes and begins with `data`, and both are defined (R19). -/
def bufIs (t : State) (data : List Byte) : Prop :=
  t.rlen.toNat = data.length ∧ t.rbuf.length = t.params.rxbuf ∧ t.rbuf.take data.length = data ∧ t.bufDefined = true

/-- VAL, RLEN and RBUF hold no defined value (R18, R19). -/
def noDefinedResult (t : State) : Prop := t.valDefined = false ∧ t.bufDefined = false

/-- The operation ended with this code (R156), and the block is free for the next (R22). -/
def endedWith (t : State) (code : BitVec 4) : Prop := t.status = code ∧ t.busy = false

/-- No transport call was made. -/
def noCall (s t : State) : Prop := t.trace = s.trace ∧ t.script = s.script

/-- Exactly one transport call was made, `call`, answered as the environment of `s` answers it. -/
def oneCall (s t : State) (call : BusCall) : Prop :=
  t.trace = s.trace ++ [⟨call, s.answerTo call⟩] ∧ t.script = s.script.tail

/-- Exactly two transport calls were made, `first` and then `second`, each answered when it was made (R44). -/
def twoCalls (s t : State) (first second : BusCall) : Prop :=
  t.trace = s.trace ++ [⟨first, s.answerTo first⟩, ⟨second, (s.transact first).answerTo second⟩] ∧ t.script = s.script.tail.tail

/-- The codes of the transport's errors (R156). -/
def transportCode : TransportKind → BitVec 4
  | .nack => 2
  | .timeout => 3
  | .busError => 4

/-- `BusWriteRead(DEV_ADDR, w, k)` with the deadline (R35). -/
def reads (s : State) (w : List Byte) (k : Nat) : BusCall := .writeRead s.params.devAddr w k s.params.timeoutMs

/-- `BusWrite(DEV_ADDR, w)` (R36). -/
def writes (s : State) (w : List Byte) : BusCall := .write s.params.devAddr w

/-- The address byte of a read, `AR` (R55). -/
def ar (s : State) : Byte := BitVec.ofNat 8 (2 * s.params.devAddr.toNat + 1)

/-- The address byte of a write, `AW` (R55). -/
def aw (s : State) : Byte := BitVec.ofNat 8 (2 * s.params.devAddr.toNat)

/-- The write phase of a write whose plain form is `w`, protected or not (R53, R54, R57). -/
def framed (s : State) (protect : Bool) (w : List Byte) : List Byte := if protect then w ++ [crc8 (aw s :: w)] else w

/-- The value of two bytes, high byte first (R57). -/
def pair (hi lo : Byte) : HalfWord := BitVec.ofNat 16 (256 * hi.toNat + lo.toNat)

/-- The data bytes of a write-back of `w` (R57). -/
def cfgBytes (s : State) (w : HalfWord) : List Byte :=
  match s.params.cfgDataOrder with
  | .msbFirst => [w.extractLsb' 8 8, w.extractLsb' 0 8]
  | .lsbFirst => [w.extractLsb' 0 8, w.extractLsb' 8 8]

/-- The call that reads `0x9017` (R57, R110). -/
def cfgReads (s : State) : BusCall := reads s s.params.cfgAddrBytes (if s.integrityEnabled then 3 else 2)

/-- The call that writes `w` back to `0x9017` (R57, R111). -/
def cfgWrites (s : State) (w : HalfWord) : BusCall :=
  writes s (framed s s.integrityEnabled (s.params.cfgAddrBytes ++ cfgBytes s w))

/-- The bytes a device gives to a read of `data`, in the framing the flag selects (R51, R52). -/
def deviceBytes (s : State) (data : List Byte) : List Byte :=
  if s.integrityEnabled then data ++ [crc8 (ar s :: data)] else data

/-- The two operations that write the flag (R20). -/
def isToggle (i : Instr) : Prop := i = .integEn ∨ i = .integDis

/-- The operations that write `acc` (R20). -/
def writesAcc (i : Instr) : Prop := i = .crcInit ∨ ∃ d, i = .crcByte d

/-- The operations that write VAL when they succeed (R20). -/
def writesVal (i : Instr) : Prop := i = .crcRead ∨ isToggle i ∨ ∃ reg n, i = .rdScalar reg n

/-- The operations that write RLEN and RBUF when they succeed (R20). -/
def writesBuf (i : Instr) : Prop := ∃ reg n, i = .rdScalar reg n ∨ i = .rdBuf reg n

/-- The operations that make no transport call (R20). -/
def isCrcOp (i : Instr) : Prop := writesAcc i ∨ i = .crcRead

/-- The masks and matches of spec/opcode_table.json. -/
def tableRows : List (Word × Word) :=
  [ (0xFFFFFFFF, 0x01000000), (0xFFFFFF00, 0x02000000), (0xFFFFFFFF, 0x03000000), (0xFF00FF00, 0x10000000),
    (0xFF00FF00, 0x11000000), (0xFF00FF00, 0x12000000), (0xFFFFFF00, 0x20000000), (0xFFFF0000, 0x21000000),
    (0xFFFFFFFF, 0x30000000), (0xFFFFFFFF, 0x31000000) ]

end Sys2Proof.Claims

open Sys2Proof Sys2Proof.Machine Sys2Proof.Claims

/-! ## The CRC engine -/

/-- R75: one shift is a feedback shift register with taps at bits 0, 1 and 2. -/
def Obligations.CrcShiftIsTheWiredRegister : Prop :=
  ∀ t : Byte,
    (crcShift t).getLsbD 0 = t.getLsbD 7 ∧ (crcShift t).getLsbD 1 = (t.getLsbD 0 ^^ t.getLsbD 7) ∧
    (crcShift t).getLsbD 2 = (t.getLsbD 1 ^^ t.getLsbD 7) ∧ (crcShift t).getLsbD 3 = t.getLsbD 2 ∧
    (crcShift t).getLsbD 4 = t.getLsbD 3 ∧ (crcShift t).getLsbD 5 = t.getLsbD 4 ∧
    (crcShift t).getLsbD 6 = t.getLsbD 5 ∧ (crcShift t).getLsbD 7 = t.getLsbD 6

/-- R76: the printed table is `step(0x00, x)`, and gives every step. -/
def Obligations.CrcStepIsTheTableLookup : Prop :=
  crcTable.length = 256 ∧ (∀ x : Byte, crcTable[x.toNat]? = some (crcStep 0x00 x)) ∧
  ∀ acc d : Byte, crcTable[(acc ^^^ d).toNat]? = some (crcStep acc d)

/-- R77 (a): the step and the CRC of lists of equal length are linear. -/
def Obligations.CrcIsLinear : Prop :=
  (∀ x y : Byte, crcStep (x ^^^ y) 0 = crcStep x 0 ^^^ crcStep y 0) ∧
  ∀ s u : List Byte, s.length = u.length → crc8 (List.zipWith (· ^^^ ·) s u) = crc8 s ^^^ crc8 u

/-- R77 (b), (d), (e): leading zeros do not count, the residue is zero, and one byte gives its table entry. -/
def Obligations.CrcLeadingZerosResidueAndSingleByte : Prop :=
  (∀ s : List Byte, crc8 (0x00 :: s) = crc8 s) ∧ (∀ s : List Byte, crc8 (s ++ [crc8 s]) = 0x00) ∧
  (∀ x : Byte, crc8 [x] = crcStep 0x00 x) ∧ crc8 [0x01] = 0x07

/-- R77 (c): the step is a bijection in each argument, so changing exactly one byte of a span always changes the CRC. -/
def Obligations.CrcDetectsAnyOneChangedByte : Prop :=
  (∀ acc : Byte, Function.Bijective (crcStep acc)) ∧ (∀ d : Byte, Function.Bijective (fun acc => crcStep acc d)) ∧
  ∀ (before after : List Byte) (x y : Byte), x ≠ y → crc8 (before ++ x :: after) ≠ crc8 (before ++ y :: after)

/-- R78: the framer's comparison is the residue check. -/
def Obligations.CrcCheckIsTheResidueCheck : Prop :=
  (∀ (domain : List Byte) (r : Byte), crcStep (crc8 domain) r = 0x00 ↔ r = crc8 domain) ∧
  ∀ (addr : BitVec 7) (data : List Byte) (r : Byte),
    checkCrc addr data.length (data ++ [r]) = .ok data ↔ crc8 (readDomain addr data ++ [r]) = 0x00

/-- R74: `crc8` is what CRC_INIT, the CRC_BYTEs and CRC_READ compute, from any state and for any span; no other operation touches
`acc`. -/
def Obligations.CrcOperationsComputeCrc8 : Prop :=
  crc8 [] = 0x00 ∧
  (∀ (span : List Byte) (s : State), ∃ t, Pseudo.run (.crc8 span) s = .next t ∧ t.acc = crc8 span ∧ valIs t (zext32 (crc8 span)) ∧
    endedWith t 0 ∧ t.integrityEnabled = s.integrityEnabled ∧ keepsBuf s t ∧ keepsFixed s t ∧ noCall s t) ∧
  ∀ (i : Instr) (s t : State), exec i s = .next t → ¬ writesAcc i → t.acc = s.acc

/-- R71: CRC_INIT, whole. -/
def Obligations.CrcInitClearsTheAccumulator : Prop :=
  decode 0x01000000 = .ok .crcInit ∧
  ∀ s : State, ∃ t, exec .crcInit s = .next t ∧ t.acc = 0x00 ∧ endedWith t 0 ∧ noCall s t ∧
    t.integrityEnabled = s.integrityEnabled ∧ keepsVal s t ∧ keepsBuf s t ∧ keepsFixed s t

/-- R72: CRC_BYTE, whole: eight shifts of `acc ^ d`, the exclusive or after the shift, decided by the bit shifted out. -/
def Obligations.CrcByteShiftsEightTimes : Prop :=
  (∀ d : Byte, decode (0x02000000 ||| d.setWidth 32) = .ok (.crcByte d)) ∧
  ∀ (d : Byte) (s : State), ∃ t, exec (.crcByte d) s = .next t ∧
    t.acc = (fun x : Byte => if x.getLsbD 7 then (x <<< 1) ^^^ 0x07 else x <<< 1)^[8] (s.acc ^^^ d) ∧
    endedWith t 0 ∧ noCall s t ∧ t.integrityEnabled = s.integrityEnabled ∧ keepsVal s t ∧ keepsBuf s t ∧ keepsFixed s t

/-- R73: CRC_READ, whole: VAL is the accumulator, which is not changed. -/
def Obligations.CrcReadDeliversTheAccumulator : Prop :=
  decode 0x03000000 = .ok .crcRead ∧
  ∀ s : State, ∃ t, exec .crcRead s = .next t ∧ valIs t (s.acc.setWidth 32) ∧ endedWith t 0 ∧ noCall s t ∧
    keepsControl s t ∧ keepsBuf s t ∧ keepsFixed s t

/-! ## Reads -/

/-- R88: composition is big-endian, equals the shifting form, and fits `8 n` bits. -/
def Obligations.ComposeIsBigEndian : Prop :=
  ∀ data : List Byte, 1 ≤ data.length → data.length ≤ 4 →
    (compose data).toNat =
      ((List.range data.length).map (fun i => (data.getD i 0).toNat * 2 ^ (8 * (data.length - 1 - i)))).sum ∧
    compose data = data.foldl (fun (acc : Word) d => (acc <<< 8) ||| d.setWidth 32) 0 ∧
    (compose data).toNat < 2 ^ (8 * data.length)

/-- R91, flag clear: RD_SCALAR makes one read of `n` bytes and delivers them, composed and in RBUF. -/
def Obligations.RdScalarPlainDeliversTheBytes : Prop :=
  ∀ (s : State) (reg n : Byte) (data : List Byte), s.params.wellFormed = true → s.integrityEnabled = false →
    1 ≤ n.toNat → n.toNat ≤ 4 → s.answerTo (reads s [reg] n.toNat) = .ok data →
    ∃ t, exec (.rdScalar reg n) s = .next t ∧ data.length = n.toNat ∧ valIs t (compose data) ∧ bufIs t data ∧ endedWith t 0 ∧
      oneCall s t (reads s [reg] n.toNat) ∧ keepsControl s t ∧ keepsFixed s t

/-- R91, flag set: RD_SCALAR makes one read of `n + 1` bytes and delivers the first `n` when the last is their CRC. -/
def Obligations.RdScalarProtectedDeliversTheBytes : Prop :=
  ∀ (s : State) (reg n : Byte) (data : List Byte), s.params.wellFormed = true → s.integrityEnabled = true →
    1 ≤ n.toNat → n.toNat ≤ 4 → s.answerTo (reads s [reg] (n.toNat + 1)) = .ok (data ++ [crc8 (ar s :: data)]) →
    ∃ t, exec (.rdScalar reg n) s = .next t ∧ data.length = n.toNat ∧ valIs t (compose data) ∧ bufIs t data ∧ endedWith t 0 ∧
      oneCall s t (reads s [reg] (n.toNat + 1)) ∧ keepsControl s t ∧ keepsFixed s t

/-- R92, flag clear: RD_BUF makes one read of `n` bytes, up to RXBUF, and delivers them in RBUF; VAL is not written. -/
def Obligations.RdBufPlainDeliversTheBytes : Prop :=
  ∀ (s : State) (reg n : Byte) (data : List Byte), s.params.wellFormed = true → s.integrityEnabled = false →
    1 ≤ n.toNat → n.toNat ≤ s.params.rxbuf → s.answerTo (reads s [reg] n.toNat) = .ok data →
    ∃ t, exec (.rdBuf reg n) s = .next t ∧ data.length = n.toNat ∧ bufIs t data ∧ endedWith t 0 ∧ keepsVal s t ∧
      oneCall s t (reads s [reg] n.toNat) ∧ keepsControl s t ∧ keepsFixed s t

/-- R92, flag set: RD_BUF makes one read of `n + 1` bytes, up to RXBUF, and delivers the first `n` when the last is their CRC. -/
def Obligations.RdBufProtectedDeliversTheBytes : Prop :=
  ∀ (s : State) (reg n : Byte) (data : List Byte), s.params.wellFormed = true → s.integrityEnabled = true →
    1 ≤ n.toNat → n.toNat + 1 ≤ s.params.rxbuf → s.answerTo (reads s [reg] (n.toNat + 1)) = .ok (data ++ [crc8 (ar s :: data)]) →
    ∃ t, exec (.rdBuf reg n) s = .next t ∧ data.length = n.toNat ∧ bufIs t data ∧ endedWith t 0 ∧ keepsVal s t ∧
      oneCall s t (reads s [reg] (n.toNat + 1)) ∧ keepsControl s t ∧ keepsFixed s t

/-- R86: an illegal count ends with ArgumentError before any bus activity, whatever the environment would answer. -/
def Obligations.IllegalCountIsRefusedBeforeTheBus : Prop :=
  ∀ (s : State) (i : Instr) (reg n : Byte),
    (i = .rdScalar reg n ∧ (n.toNat < 1 ∨ 4 < n.toNat)) ∨
    (i = .rdBuf reg n ∧ (n.toNat < 1 ∨ s.params.rxbuf < (if s.integrityEnabled then n.toNat + 1 else n.toNat))) →
    ∃ t, exec i s = .next t ∧ endedWith t 1 ∧ noCall s t ∧ noDefinedResult t ∧ keepsControl s t ∧ keepsFixed s t

/-- R89, R90, R152 to R154: a transport error of a read with a legal count ends the operation with its code, in either variant. -/
def Obligations.ReadReportsTheTransportError : Prop :=
  ∀ (s : State) (i : Instr) (reg n : Byte) (k : TransportKind),
    (i = .rdScalar reg n ∧ 1 ≤ n.toNat ∧ n.toNat ≤ 4) ∨
    (i = .rdBuf reg n ∧ 1 ≤ n.toNat ∧ (if s.integrityEnabled then n.toNat + 1 else n.toNat) ≤ s.params.rxbuf) →
    s.answerTo (reads s [reg] (if s.integrityEnabled then n.toNat + 1 else n.toNat)) = .err k →
    ∃ t, exec i s = .next t ∧ endedWith t (transportCode k) ∧ noDefinedResult t ∧
      oneCall s t (reads s [reg] (if s.integrityEnabled then n.toNat + 1 else n.toNat)) ∧ keepsControl s t ∧ keepsFixed s t

/-- R90, R155: a protected read whose last byte is not the CRC of the domain ends with IntegrityError; no data byte is delivered. -/
def Obligations.ProtectedReadRejectsAWrongCrc : Prop :=
  ∀ (s : State) (i : Instr) (reg n r : Byte) (data : List Byte), s.integrityEnabled = true →
    (i = .rdScalar reg n ∧ 1 ≤ n.toNat ∧ n.toNat ≤ 4) ∨ (i = .rdBuf reg n ∧ 1 ≤ n.toNat ∧ n.toNat + 1 ≤ s.params.rxbuf) →
    s.answerTo (reads s [reg] (n.toNat + 1)) = .ok (data ++ [r]) → r ≠ crc8 (ar s :: data) →
    ∃ t, exec i s = .next t ∧ endedWith t 5 ∧ noDefinedResult t ∧ oneCall s t (reads s [reg] (n.toNat + 1)) ∧
      keepsControl s t ∧ keepsFixed s t

/-- R97: after a successful RD_SCALAR, VAL is the composition of RBUF below RLEN, and of what a successful RD_BUF of the same register
and count leaves in RBUF when it starts from the same state (so that the transport gives both the same bytes). -/
def Obligations.ScalarIsTheCompositionOfTheBuffer : Prop :=
  ∀ (s t : State) (reg n : Byte), s.params.wellFormed = true → exec (.rdScalar reg n) s = .next t → t.status = 0 →
    t.val = compose (t.rbuf.take t.rlen.toNat) ∧
    ∀ u, exec (.rdBuf reg n) s = .next u → u.status = 0 → t.val = compose (u.rbuf.take u.rlen.toNat)

/-- R98: a read issues `n` read bytes with the flag clear and `n + 1` with it set, the trailing byte validated; WR_BYTE issues 2 write
bytes with the flag clear and 3 with it set and the selector true. -/
def Obligations.TheFlagSelectsTheFraming : Prop :=
  (∀ (s t : State) (i : Instr) (reg n : Byte), i = .rdScalar reg n ∨ i = .rdBuf reg n → exec i s = .next t → t.status = 0 →
    ∃ bytes, t.trace = s.trace ++ [⟨reads s [reg] (if s.integrityEnabled then n.toNat + 1 else n.toNat), .ok bytes⟩] ∧
      bytes.length = (if s.integrityEnabled then n.toNat + 1 else n.toNat) ∧
      (s.integrityEnabled = true → bytes[n.toNat]? = some (crc8 (ar s :: bytes.take n.toNat)))) ∧
  ∀ (s t : State) (reg v : Byte), exec (.wrByte reg v) s = .next t →
    ∃ (w : List Byte) (a : BusAnswer), t.trace = s.trace ++ [⟨writes s w, a⟩] ∧
      (s.integrityEnabled = false → w.length = 2) ∧
      (s.integrityEnabled = true → s.params.wrByteUsesSelector = true → w.length = 3)

/-! ## Writes and commands -/

/-- R96: WR_BYTE sends one frame, protected when the flag is set and WR_BYTE dispatches on it (R95), and reads nothing back. -/
def Obligations.WrByteSendsItsFrame : Prop :=
  ∀ (s : State) (reg v : Byte) (bytes : List Byte),
    s.answerTo (writes s (framed s (s.integrityEnabled && s.params.wrByteUsesSelector) [reg, v])) = .ok bytes →
    ∃ t, exec (.wrByte reg v) s = .next t ∧ endedWith t 0 ∧
      oneCall s t (writes s (framed s (s.integrityEnabled && s.params.wrByteUsesSelector) [reg, v])) ∧
      keepsVal s t ∧ keepsBuf s t ∧ keepsControl s t ∧ keepsFixed s t

/-- R106: CMD8 sends its one byte, with no CRC in either setting of the flag. -/
def Obligations.Cmd8SendsOneByte : Prop :=
  ∀ (s : State) (op : Byte) (bytes : List Byte), s.answerTo (writes s [op]) = .ok bytes →
    ∃ t, exec (.cmd8 op) s = .next t ∧ endedWith t 0 ∧ oneCall s t (writes s [op]) ∧
      keepsVal s t ∧ keepsBuf s t ∧ keepsControl s t ∧ keepsFixed s t

/-- R107: CMD16 sends its two bytes, low byte first, with no CRC in either setting of the flag. -/
def Obligations.Cmd16SendsTheLowByteFirst : Prop :=
  ∀ (s : State) (op16 : HalfWord) (lo hi : Byte) (bytes : List Byte), op16.toNat = 256 * hi.toNat + lo.toNat →
    s.answerTo (writes s [lo, hi]) = .ok bytes →
    ∃ t, exec (.cmd16 op16) s = .next t ∧ endedWith t 0 ∧ oneCall s t (writes s [lo, hi]) ∧
      keepsVal s t ∧ keepsBuf s t ∧ keepsControl s t ∧ keepsFixed s t

/-- R96, R106, R107: a write or command whose transport call fails ends with that error's code, is not retried, and changes nothing else
but the result registers, which hold no defined value. -/
def Obligations.SendReportsTheTransportError : Prop :=
  ∀ (s : State) (i : Instr) (w : List Byte) (k : TransportKind),
    ((∃ reg v, i = .wrByte reg v ∧ w = framed s (s.integrityEnabled && s.params.wrByteUsesSelector) [reg, v]) ∨
     (∃ op, i = .cmd8 op ∧ w = [op]) ∨
     (∃ op16 : HalfWord, i = .cmd16 op16 ∧ w = [op16.extractLsb' 0 8, op16.extractLsb' 8 8])) →
    s.answerTo (writes s w) = .err k →
    ∃ t, exec i s = .next t ∧ endedWith t (transportCode k) ∧ noDefinedResult t ∧ oneCall s t (writes s w) ∧
      keepsControl s t ∧ keepsFixed s t

/-- R109: each of the five subcommands is one write of its two bytes; in particular RESET does not clear the flag (R186). -/
def Obligations.SubcommandsSendTheirOpcodes : Prop :=
  ∀ (s : State) (c : Subcommand) (w bytes : List Byte),
    (c = .reset ∧ w = [0x12, 0x00]) ∨ (c = .toggleFetControl ∧ w = [0x22, 0x00]) ∨ (c = .sealDevice ∧ w = [0x30, 0x00]) ∨
      (c = .enterConfigUpdate ∧ w = [0x90, 0x00]) ∨ (c = .exitConfigUpdate ∧ w = [0x92, 0x00]) →
    s.answerTo (writes s w) = .ok bytes →
    ∃ t, Pseudo.run (.send c) s = .next t ∧ endedWith t 0 ∧ oneCall s t (writes s w) ∧
      keepsVal s t ∧ keepsBuf s t ∧ keepsControl s t ∧ keepsFixed s t

/-! ## Integrity mode control -/

/-- R112: INTEG_EN reads `0x9017`, writes it back with bit 0 set and bits 15 to 1 kept, both in the framing of the flag as it was, and
then sets the flag; VAL is the value written. -/
def Obligations.IntegEnSetsTheFlag : Prop :=
  ∀ (s : State) (hi lo : Byte) (w : HalfWord) (bytes : List Byte),
    w.getLsbD 0 = true → (∀ j, 1 ≤ j → w.getLsbD j = (pair hi lo).getLsbD j) →
    s.answerTo (cfgReads s) = .ok (deviceBytes s [hi, lo]) →
    (s.transact (cfgReads s)).answerTo (cfgWrites s w) = .ok bytes →
    ∃ t, exec .integEn s = .next t ∧ t.integrityEnabled = true ∧ valIs t (w.setWidth 32) ∧ endedWith t 0 ∧
      twoCalls s t (cfgReads s) (cfgWrites s w) ∧ t.acc = s.acc ∧ keepsBuf s t ∧ keepsFixed s t

/-- R113: INTEG_DIS does the same with bit 0 cleared, and then clears the flag. -/
def Obligations.IntegDisClearsTheFlag : Prop :=
  ∀ (s : State) (hi lo : Byte) (w : HalfWord) (bytes : List Byte),
    w.getLsbD 0 = false → (∀ j, 1 ≤ j → w.getLsbD j = (pair hi lo).getLsbD j) →
    s.answerTo (cfgReads s) = .ok (deviceBytes s [hi, lo]) →
    (s.transact (cfgReads s)).answerTo (cfgWrites s w) = .ok bytes →
    ∃ t, exec .integDis s = .next t ∧ t.integrityEnabled = false ∧ valIs t (w.setWidth 32) ∧ endedWith t 0 ∧
      twoCalls s t (cfgReads s) (cfgWrites s w) ∧ t.acc = s.acc ∧ keepsBuf s t ∧ keepsFixed s t

/-- R112, R113: when the read of `0x9017` fails, by a transport error or (flag set) a wrong CRC, no write is made and the flag is
unchanged. -/
def Obligations.ToggleStopsWhenItsReadFails : Prop :=
  ∀ (s : State) (i : Instr) (code : BitVec 4), isToggle i →
    (∃ k, s.answerTo (cfgReads s) = .err k ∧ code = transportCode k) ∨
    (s.integrityEnabled = true ∧ code = 5 ∧
      ∃ hi lo r, s.answerTo (cfgReads s) = .ok [hi, lo, r] ∧ r ≠ crc8 [ar s, hi, lo]) →
    ∃ t, exec i s = .next t ∧ endedWith t code ∧ noDefinedResult t ∧ oneCall s t (cfgReads s) ∧ keepsControl s t ∧ keepsFixed s t

/-- R112, R113, R115: when the write-back fails, the flag is unchanged, although the read succeeded. -/
def Obligations.ToggleKeepsTheFlagWhenItsWriteFails : Prop :=
  ∀ (s : State) (hi lo : Byte) (w : HalfWord) (i : Instr) (k : TransportKind),
    (i = .integEn ∧ w = pair hi lo ||| 0x0001) ∨ (i = .integDis ∧ w = pair hi lo &&& 0xFFFE) →
    s.answerTo (cfgReads s) = .ok (deviceBytes s [hi, lo]) →
    (s.transact (cfgReads s)).answerTo (cfgWrites s w) = .err k →
    ∃ t, exec i s = .next t ∧ endedWith t (transportCode k) ∧ noDefinedResult t ∧
      twoCalls s t (cfgReads s) (cfgWrites s w) ∧ keepsControl s t ∧ keepsFixed s t

/-- R116: the enable and disable round trip, from any flag and any register: when both succeed the flag is clear and the last value
written has bit 0 clear; it went out in protected form, since the flag was set by then. -/
def Obligations.EnableThenDisableLeavesThePlainMode : Prop :=
  ∀ s t u : State, exec .integEn s = .next t → t.status = 0 → exec .integDis t = .next u → u.status = 0 →
    t.integrityEnabled = true ∧ u.integrityEnabled = false ∧
    ∃ w : HalfWord, w.getLsbD 0 = false ∧ valIs u (w.setWidth 32) ∧
      u.trace.getLast? = some ⟨writes s (framed s true (s.params.cfgAddrBytes ++ cfgBytes s w)), .ok []⟩

/-- R12, R115, R186: whatever the operation, the flag changes only by a toggle that ended with success. -/
def Obligations.TheFlagChangesOnlyByASuccessfulToggle : Prop :=
  ∀ (i : Instr) (s t : State), exec i s = .next t → t.integrityEnabled ≠ s.integrityEnabled →
    t.status = 0 ∧ ((i = .integEn ∧ t.integrityEnabled = true) ∨ (i = .integDis ∧ t.integrityEnabled = false))

/-! ## Errors -/

/-- R99, R158: what any failed operation leaves: the flag, `acc` and the parameters as they were, no defined result, the block free,
and the calls made before only added to. -/
def Obligations.FailureLeavesNoDefinedResult : Prop :=
  ∀ (i : Instr) (s t : State), exec i s = .next t → t.status ≠ 0 →
    keepsControl s t ∧ keepsFixed s t ∧ noDefinedResult t ∧ t.busy = false ∧ s.trace <+: t.trace ∧
    t.hostVal = .error .valUndefined ∧ t.hostRlen = .error .rlenUndefined ∧ ∀ j, t.hostRbuf j = .error (.rbufUndefined j)

/-- R18, R19, R20: a successful operation writes exactly the registers the matrix of R20 marks "w", and leaves the others. -/
def Obligations.SuccessWritesOnlyTheMarkedRegisters : Prop :=
  ∀ (i : Instr) (s t : State), exec i s = .next t → t.status = 0 →
    (¬ writesAcc i → t.acc = s.acc) ∧ (¬ isToggle i → t.integrityEnabled = s.integrityEnabled) ∧
    (¬ writesVal i → keepsVal s t) ∧ (writesVal i → t.valDefined = true) ∧
    (¬ writesBuf i → keepsBuf s t) ∧ (writesBuf i → t.bufDefined = true) ∧ keepsFixed s t ∧ t.busy = false

/-- R168: which operation can end with which code, and that a "yes" of the table does occur. -/
def Obligations.EachOperationEndsWithItsOwnErrors : Prop :=
  (∀ (i : Instr) (s t : State), exec i s = .next t →
    (isCrcOp i → t.status = 0) ∧
    (writesBuf i → t.status.toNat ≤ 5 ∧ (t.status = 5 → s.integrityEnabled = true)) ∧
    ((∃ reg v, i = .wrByte reg v) ∨ (∃ op, i = .cmd8 op) ∨ (∃ op16, i = .cmd16 op16) → t.status ∈ [0, 2, 3, 4]) ∧
    (isToggle i → t.status ∈ [0, 2, 3, 4, 5] ∧ (t.status = 5 → s.integrityEnabled = true))) ∧
  (∀ i : Instr, ¬ isCrcOp i → ∀ k : TransportKind, ∀ code : BitVec 4,
    code = transportCode k ∨ (code = 5 ∧ (writesBuf i ∨ isToggle i)) →
    (∀ reg n, i = .rdScalar reg n → 1 ≤ n.toNat ∧ n.toNat ≤ 4) → (∀ reg n, i = .rdBuf reg n → 1 ≤ n.toNat ∧ n.toNat ≤ 31) →
    ∃ s t : State, s.params = Params.default ∧ exec i s = .next t ∧ t.status = code) ∧
  ∀ i : Instr, isToggle i → ∀ k : TransportKind,
    ∃ s t : State, exec i s = .next t ∧ t.status = transportCode k ∧ t.trace.length = s.trace.length + 2

/-- R157: the error reported is the first in the order: the argument, the transport error of the read, the CRC, and for the two toggles
the transport error of the write. -/
def Obligations.TheFirstErrorIsTheOneReported : Prop :=
  (∀ (s t : State) (i : Instr) (reg n : Byte), i = .rdScalar reg n ∨ i = .rdBuf reg n → exec i s = .next t →
    t.status =
      (if i.wellFormed s.params.rxbuf s.integrityEnabled = false then 1
       else match s.answerTo (reads s [reg] (if s.integrityEnabled then n.toNat + 1 else n.toNat)) with
        | .err k => transportCode k
        | .ok bytes =>
          if s.integrityEnabled = true ∧ bytes[n.toNat]? ≠ some (crc8 (ar s :: bytes.take n.toNat)) then 5 else 0)) ∧
  ∀ (s t : State) (i : Instr), isToggle i → exec i s = .next t →
    t.status =
      (match s.answerTo (cfgReads s) with
       | .err k => transportCode k
       | .ok bytes =>
         if s.integrityEnabled = true ∧ bytes[2]? ≠ some (crc8 (ar s :: bytes.take 2)) then 5
         else match (s.transact (cfgReads s)).answerTo (cfgWrites s
            (if i = .integEn then pair (bytes.getD 0 0) (bytes.getD 1 0) ||| 0x0001
             else pair (bytes.getD 0 0) (bytes.getD 1 0) &&& 0xFFFE)) with
           | .err k => transportCode k
           | .ok _ => 0)

/-- R192, R20: how many transport calls each operation makes, and of which kind. -/
def Obligations.TransportCallsAreCounted : Prop :=
  ∀ (i : Instr) (s t : State), exec i s = .next t →
    ∃ events : List BusEvent, t.trace = s.trace ++ events ∧
      (isCrcOp i → events = []) ∧
      (writesBuf i → events.length ≤ 1 ∧ ∀ e ∈ events, ∃ w k, e.call = reads s w k) ∧
      ((∃ reg v, i = .wrByte reg v) ∨ (∃ op, i = .cmd8 op) ∨ (∃ op16, i = .cmd16 op16) →
        events.length = 1 ∧ ∀ e ∈ events, ∃ w, e.call = writes s w) ∧
      (isToggle i → ∃ first rest, events = first :: rest ∧ rest.length ≤ 1 ∧ (∃ w k, first.call = reads s w k) ∧
        ∀ e ∈ rest, ∃ w, e.call = writes s w)

/-! ## What an operation does not read -/

/-- R11, R74, D5: the framer never reads the host's accumulator: an operation other than the CRC engine's does the same whatever `acc`
holds. -/
def Obligations.TheFramerNeverReadsTheAccumulator : Prop :=
  ∀ (i : Instr) (s t : State) (v : Byte), ¬ isCrcOp i → exec i s = .next t → exec i (s.setAcc v) = .next (t.setAcc v)

/-- R17, R21: no operation reads STATUS, and none reads `busy`: the outcome is the same whatever they held. -/
def Obligations.NoOperationReadsStatus : Prop :=
  ∀ (i : Instr) (s : State) (status : BitVec 4) (busy : Bool), exec i { s with status := status, busy := busy } = exec i s

/-! ## Encoding -/

/-- R59, R60: every operation, with every value of its operands, decodes from its command word. -/
def Obligations.DecodeOfEncodeIsTheInstruction : Prop :=
  ∀ i : Instr, decode (encode i) = .ok i

/-- R59, R60, R63: a word that decodes is the command word of what it decodes to, so no two words ask for one operation. -/
def Obligations.EncodeOfDecodeIsTheWord : Prop :=
  ∀ (w : Word) (i : Instr), decode w = .ok i → encode i = w

/-- R60, R61: words written out from the spec's tables decode to what they stand for, an out-of-range count among them. -/
def Obligations.WordsOfTheSpecDecode : Prop :=
  decode 0x02000011 = .ok (.crcByte 0x11) ∧ decode 0x10120005 = .ok (.rdScalar 0x12 5) ∧
  decode 0x1112001F = .ok (.rdBuf 0x12 31) ∧ decode 0x12680003 = .ok (.wrByte 0x68 0x03) ∧
  decode 0x20000012 = .ok (.cmd8 0x12) ∧ decode 0x21001234 = .ok (.cmd16 0x1234) ∧
  decode 0x30000000 = .ok .integEn ∧ decode 0x31000000 = .ok .integDis

/-- R63: a word that selects no row of the table ends with ArgumentError and no transport call, from any state that takes it. -/
def Obligations.ReservedWordsAreRefused : Prop :=
  ∀ (s : State) (w : Word) (rest : List Word), (∀ row ∈ tableRows, w &&& row.1 ≠ row.2) → s.busy = false → s.host = w :: rest →
    ∃ t, step s = .next t ∧ endedWith t 1 ∧ noCall s t ∧ noDefinedResult t ∧ keepsControl s t ∧
      t.params = s.params ∧ t.host = rest

/-! ## The step -/

/-- R21, R22: a step takes the host's next word and runs the operation it decodes to; around it the step sets `busy`, which the
operation clears, and removes the word from the host's list. -/
def Obligations.StepRunsTheDecodedInstruction : Prop :=
  ∀ (s : State) (w : Word) (rest : List Word) (i : Instr), s.busy = false → s.host = w :: rest → decode w = .ok i →
    step s = exec i { s with busy := true, host := rest }

/-- R22, R178: while busy, and while the host issues no word, the block waits; every operation ends with `busy` clear. The wait is the
model's form of "takes no command word" (log 2, 14). -/
def Obligations.TheBlockWaitsForACommandWord : Prop :=
  (∀ s : State, s.busy = true → step s = .next s) ∧ (∀ s : State, s.host = [] → step s = .next s) ∧
  ∀ (i : Instr) (s t : State), exec i s = .next t → t.busy = false

/-- Whatever the state, a step gives a next state, and the parameters are as they were. This rests on the premise that every transport
call is answered within the step (D27, log 13), and on the model's choice that a block that is busy, or has no word to take, waits
(log 14, log 2); R159 gives only that the block is ready again after an error. -/
def Obligations.EveryStepGivesANextState : Prop :=
  ∀ s : State, ∃ t, step s = .next t ∧ t.params = s.params

/-! ## Reset and invariants -/

/-- R176: the reset value of every piece of state and the default of every parameter; a register that holds no defined value faults when
the host reads it. Nothing is said of the values the model's log names. -/
def Obligations.ResetValues : Prop :=
  State.reset.integrityEnabled = false ∧ State.reset.acc = 0x00 ∧ State.reset.status = 0 ∧ State.reset.busy = false ∧
  State.reset.hostVal = .error .valUndefined ∧ State.reset.hostRlen = .ok 0 ∧
  (∀ j, State.reset.hostRbuf j = .error (.rbufUndefined j)) ∧ State.reset.trace = [] ∧
  State.reset.params = ⟨0x08, 32, 1000, [0x17, 0x90], .msbFirst, true⟩

/-- The reset state is sound, with any well-formed parameters. -/
def Obligations.ResetIsSound : Prop :=
  ∀ p : Params, p.wellFormed = true → (State.construct p).Sound ∧ (State.construct p).traceSound

/-- R18, R19, R22, R156: a step from a sound state gives a sound state: RBUF keeps its size, a defined RLEN its bound, STATUS a code
that is written, and no result register is defined after a failure. -/
def Obligations.EveryStepKeepsTheStateSound : Prop :=
  ∀ s t : State, s.Sound → step s = .next t → t.Sound

/-- R37, R183, D9: every transport call the block ever makes is one the transport admits: to DEV_ADDR, reads of 1 to RXBUF bytes, writes
of at most five, and the bytes taken from a read are exactly those asked for. -/
def Obligations.EveryStepKeepsTheTraceSound : Prop :=
  ∀ s t : State, s.params.wellFormed = true → s.traceSound → step s = .next t → t.traceSound

/-! ## Status decoders -/

/-- R127, R128, R130, R134, R136, R137: each named bit is at its coordinate. -/
def Obligations.DecodedBitsAreAtTheirCoordinates : Prop :=
  (∀ x : Byte, decSafetyAlertA x = ⟨x.getLsbD 7, x.getLsbD 6, x.getLsbD 5, x.getLsbD 4, x.getLsbD 3, x.getLsbD 2⟩) ∧
  (∀ x : Byte, decSafetyFaultA x =
    ⟨x.getLsbD 7, x.getLsbD 6, x.getLsbD 5, x.getLsbD 4, x.getLsbD 3, x.getLsbD 2, x.getLsbD 1, x.getLsbD 0⟩) ∧
  (∀ x : Byte, decSafetyB x =
    ⟨x.getLsbD 7, x.getLsbD 6, x.getLsbD 5, x.getLsbD 4, x.getLsbD 3, x.getLsbD 1, x.getLsbD 0⟩) ∧
  (∀ x : HalfWord, (decBatteryStatus x).normal = x.getLsbD 15 ∧ (decBatteryStatus x).safetyAlert = x.getLsbD 13 ∧
    (decBatteryStatus x).safetyFault = x.getLsbD 12 ∧ (decBatteryStatus x).fetCtrl = x.getLsbD 8 ∧
    (decBatteryStatus x).ramReset = x.getLsbD 7 ∧ (decBatteryStatus x).configMode = x.getLsbD 5 ∧
    (decBatteryStatus x).alertPin = x.getLsbD 4 ∧ (decBatteryStatus x).chgDrv = x.getLsbD 3 ∧
    (decBatteryStatus x).dsgDrv = x.getLsbD 2 ∧ (decBatteryStatus x).chgDet = x.getLsbD 1) ∧
  (∀ x : HalfWord, decAlarm x = ⟨x.getLsbD 15, x.getLsbD 14, x.getLsbD 13, x.getLsbD 12, x.getLsbD 11, x.getLsbD 10, x.getLsbD 9,
    x.getLsbD 7, x.getLsbD 6, x.getLsbD 2, x.getLsbD 1, x.getLsbD 0⟩) ∧
  (∀ x : Byte, decFetControl x = ⟨x.getLsbD 3, x.getLsbD 2, x.getLsbD 1, x.getLsbD 0⟩) ∧
  ∀ x : Byte, (decRegout x).tsOn = x.getLsbD 4 ∧ (decRegout x).regEn = x.getLsbD 3

/-- R126: two inputs that differ only in unnamed bits decode to equal records. -/
def Obligations.UnnamedBitsAreIgnored : Prop :=
  (∀ x y : Byte, x &&& 0xFC = y &&& 0xFC → decSafetyAlertA x = decSafetyAlertA y) ∧
  (∀ x y : Byte, x &&& 0xFB = y &&& 0xFB → decSafetyB x = decSafetyB y) ∧
  (∀ x y : HalfWord, x &&& 0xBDBE = y &&& 0xBDBE → decBatteryStatus x = decBatteryStatus y) ∧
  (∀ x y : HalfWord, x &&& 0xFEC7 = y &&& 0xFEC7 → decAlarm x = decAlarm y) ∧
  (∀ x y : Byte, x &&& 0x0F = y &&& 0x0F → decFetControl x = decFetControl y) ∧
  ∀ x y : Byte, x &&& 0x1F = y &&& 0x1F → decRegout x = decRegout y

/-- R131, R132, R133, R138: the mode truth table, `Unknown` never the result, and the security and voltage tables. -/
def Obligations.ModeSecurityAndVoltageTables : Prop :=
  (∀ x : HalfWord, (decBatteryStatus x).mode =
    (if x.getLsbD 15 then (if x.getLsbD 5 then .configure else .normal) else .shutdown)) ∧
  (∀ x : HalfWord, (decBatteryStatus x).mode ≠ .unknown) ∧
  (∀ x : HalfWord, (decBatteryStatus x).security =
    (match x.getLsbD 11, x.getLsbD 10 with
     | false, false => .uninitialized
     | false, true => .fullAccess
     | true, false => .error
     | true, true => .sealed)) ∧
  ∀ x : Byte, (decRegout x).voltage =
    (match x.getLsbD 2, x.getLsbD 1, x.getLsbD 0 with
     | false, _, _ => .v1_8
     | true, false, false => .v2_5
     | true, false, true => .v3_0
     | true, true, false => .v3_3
     | true, true, true => .v5_0)

/-- A decoder reports the one outcome ReadFailed after any error, whatever VAL holds (R129), and where STATUS is 0 and VAL is defined the
record of VAL. The record clause is not R129's: after the decoder's own read it rests on R125 and R140, and where another operation wrote
VAL it is DEDUCED (log 20). -/
def Obligations.DecodersReportAFailedRead : Prop :=
  ∀ (r : DirectReg) (s : State),
    (s.status ≠ 0 → r.report s = .ok .readFailed) ∧
    (s.status = 0 → s.valDefined = true → r.report s = .ok (.record (r.decode s.val)))

/-- R140: a status read reports the same record whether the device's bytes come by a plain or a protected read. -/
def Obligations.DecodersDoNotSeeTheVariant : Prop :=
  ∀ (r : DirectReg) (plain protect : State) (data : List Byte),
    plain.params.wellFormed = true → protect.params.wellFormed = true →
    plain.integrityEnabled = false → protect.integrityEnabled = true →
    plain.answerTo (reads plain [r.opcode] r.width.toNat) = .ok data →
    protect.answerTo (reads protect [r.opcode] (r.width.toNat + 1)) = .ok (data ++ [crc8 (ar protect :: data)]) →
    ∃ t u, Pseudo.run (.stat r) plain = .next t ∧ Pseudo.run (.stat r) protect = .next u ∧
      r.report t = .ok (.record (r.decode (compose data))) ∧ r.report u = r.report t

/-- R125, R139, R18, R176: a decoder applied to the state its own read left always reports, ReadFailed or a record. In a state where
STATUS is 0 and VAL holds no defined value, which no read of its own leaves, it faults and does not read zero: DEDUCED (log 20). -/
def Obligations.DecodersFaultOnlyWhereNoValueIsDefined : Prop :=
  (∀ (r : DirectReg) (s t : State), Pseudo.run (.stat r) s = .next t →
    (t.status ≠ 0 ∧ r.report t = .ok .readFailed) ∨ (t.status = 0 ∧ r.report t = .ok (.record (r.decode t.val)))) ∧
  (∀ (r : DirectReg) (s : State), r.report s = .error .valUndefined ↔ s.status = 0 ∧ s.valDefined = false) ∧
  ∀ r : DirectReg, r.report State.reset = .error .valUndefined
end

