-- ==== Sys2Proof/Laws/PerInstr.lean ====
section
/-! SUPPORT. A fact about each operation as it is written, one lemma per constructor: its command word selects exactly its row of
spec/opcode_table.json (spec/30_encoding.md R60). -/

namespace Sys2Proof.Laws

/-- The number of an operation's row in the table. -/
def rowOf : Instr → Nat
  | .crcInit => 0
  | .crcByte _ => 1
  | .crcRead => 2
  | .rdScalar _ _ => 3
  | .rdBuf _ _ => 4
  | .wrByte _ _ => 5
  | .cmd8 _ => 6
  | .cmd16 _ => 7
  | .integEn => 8
  | .integDis => 9

/-- The operation code of an operation (R60). -/
def opcOf : Instr → Byte
  | .crcInit => 0x01
  | .crcByte _ => 0x02
  | .crcRead => 0x03
  | .rdScalar _ _ => 0x10
  | .rdBuf _ _ => 0x11
  | .wrByte _ _ => 0x12
  | .cmd8 _ => 0x20
  | .cmd16 _ => 0x21
  | .integEn => 0x30
  | .integDis => 0x31

/-- The top byte of a command word is its first field (R59). -/
theorem opc_commandWord (opc a b c : Byte) : Word.opc (commandWord opc a b c) = opc := by
  simp only [Word.opc, commandWord]
  ext i h
  interval_cases i <;> simp

/-- The operation's word carries its operation code in `W[31:24]`. -/
def EncodeOpc.Statement (i : Instr) : Prop := Word.opc (encode i) = opcOf i

theorem EncodeOpc.crcInit : EncodeOpc.Statement .crcInit := opc_commandWord ..
theorem EncodeOpc.crcByte (d : Byte) : EncodeOpc.Statement (.crcByte d) := opc_commandWord ..
theorem EncodeOpc.crcRead : EncodeOpc.Statement .crcRead := opc_commandWord ..
theorem EncodeOpc.rdScalar (reg n : Byte) : EncodeOpc.Statement (.rdScalar reg n) := opc_commandWord ..
theorem EncodeOpc.rdBuf (reg n : Byte) : EncodeOpc.Statement (.rdBuf reg n) := opc_commandWord ..
theorem EncodeOpc.wrByte (reg v : Byte) : EncodeOpc.Statement (.wrByte reg v) := opc_commandWord ..
theorem EncodeOpc.cmd8 (op : Byte) : EncodeOpc.Statement (.cmd8 op) := opc_commandWord ..
theorem EncodeOpc.cmd16 (op16 : HalfWord) : EncodeOpc.Statement (.cmd16 op16) := opc_commandWord ..
theorem EncodeOpc.integEn : EncodeOpc.Statement .integEn := opc_commandWord ..
theorem EncodeOpc.integDis : EncodeOpc.Statement .integDis := opc_commandWord ..

end Sys2Proof.Laws
end

