-- ==== Sys2Proof/Laws/Decode.lean ====
section
/-! SUPPORT. The command word and its four fields (spec/30_encoding.md R59): each field is read back as it was written, the fields are
the whole word, and a table row selects a word by its fields. -/

namespace Sys2Proof

@[simp] theorem Word.opc_commandWord (opc a b c : Byte) : Word.opc (commandWord opc a b c) = opc :=
  Laws.opc_commandWord opc a b c

@[simp] theorem Word.a_commandWord (opc a b c : Byte) : Word.a (commandWord opc a b c) = a := by
  simp only [Word.a, commandWord]
  ext i h
  interval_cases i <;> simp

@[simp] theorem Word.b_commandWord (opc a b c : Byte) : Word.b (commandWord opc a b c) = b := by
  simp only [Word.b, commandWord]
  ext i h
  interval_cases i <;> simp

@[simp] theorem Word.c_commandWord (opc a b c : Byte) : Word.c (commandWord opc a b c) = c := by
  simp only [Word.c, commandWord]
  ext i h
  interval_cases i <;> simp

/-- The four fields are the whole word. -/
theorem commandWord_fields (w : Word) : commandWord (Word.opc w) (Word.a w) (Word.b w) (Word.c w) = w := by
  simp only [Word.opc, Word.a, Word.b, Word.c, commandWord]
  ext i h
  interval_cases i <;> simp

/-- Two words are equal when their four fields are. -/
theorem Word.eq_iff_fields (w v : Word) :
    w = v ↔ Word.opc w = Word.opc v ∧ Word.a w = Word.a v ∧ Word.b w = Word.b v ∧ Word.c w = Word.c v := by
  constructor
  · rintro rfl
    simp
  · rintro ⟨ho, ha, hb, hc⟩
    rw [← commandWord_fields w, ← commandWord_fields v, ho, ha, hb, hc]

/-- A row selects a word when the masked fields of the word are those of the match (R60). -/
theorem OpRow.selects_iff (r : OpRow) (w : Word) :
    r.selects w = true ↔
      Word.opc w &&& Word.opc r.mask = Word.opc r.pattern ∧ Word.a w &&& Word.a r.mask = Word.a r.pattern ∧
      Word.b w &&& Word.b r.mask = Word.b r.pattern ∧ Word.c w &&& Word.c r.mask = Word.c r.pattern := by
  rw [OpRow.selects, beq_iff_eq, Word.eq_iff_fields]
  simp [Word.opc, Word.a, Word.b, Word.c, BitVec.extractLsb'_and]

/-- A word decodes to what the first row that selects it builds. -/
theorem decode_eq_ok_iff (w : Word) (i : Instr) :
    decode w = .ok i ↔ ∃ r, opTable.find? (fun r => r.selects w) = some r ∧ r.build w = i := by
  have hne : ∀ (c : Bool) (x y : Reserved), (if c = true then (Except.error x : Except Reserved Instr) else .error y) ≠ .ok i := by
    intro c x y
    cases c <;> simp
  unfold decode
  cases opTable.find? (fun r => r.selects w) with
  | some r => simp
  | none => exact ⟨fun h => absurd h (hne _ _ _), by rintro ⟨r, hr, -⟩; cases hr⟩

/-- The two bytes of a 16-bit opcode are read back as they were assembled (R62). -/
theorem assembleOp16_bytes (op16 : HalfWord) : assembleOp16 (op16.extractLsb' 8 8) (op16.extractLsb' 0 8) = op16 := by
  simp only [assembleOp16]
  ext i h
  interval_cases i <;> simp

theorem extractLsb'_assembleOp16 (b c : Byte) :
    (assembleOp16 b c).extractLsb' 8 8 = b ∧ (assembleOp16 b c).extractLsb' 0 8 = c := by
  simp only [assembleOp16]
  constructor <;> (ext i h; interval_cases i <;> simp)

end Sys2Proof
end

