-- ==== Sys2Proof/Laws/State.lean ====
section
/-! SUPPORT. One lemma per field per update of the state: what each named update of Machine/Ops.lean and Machine/Fetch.lean puts into a
field, or that it leaves the field alone. -/

namespace Sys2Proof.Machine

variable (s : State)

@[simp] theorem State.setAcc_acc (v : Byte) : (s.setAcc v).acc = v := rfl
@[simp] theorem State.setAcc_integrityEnabled (v : Byte) : (s.setAcc v).integrityEnabled = s.integrityEnabled := rfl
@[simp] theorem State.setAcc_status (v : Byte) : (s.setAcc v).status = s.status := rfl
@[simp] theorem State.setAcc_val (v : Byte) : (s.setAcc v).val = s.val := rfl
@[simp] theorem State.setAcc_rlen (v : Byte) : (s.setAcc v).rlen = s.rlen := rfl
@[simp] theorem State.setAcc_rbuf (v : Byte) : (s.setAcc v).rbuf = s.rbuf := rfl
@[simp] theorem State.setAcc_busy (v : Byte) : (s.setAcc v).busy = s.busy := rfl
@[simp] theorem State.setAcc_params (v : Byte) : (s.setAcc v).params = s.params := rfl
@[simp] theorem State.setAcc_host (v : Byte) : (s.setAcc v).host = s.host := rfl
@[simp] theorem State.setAcc_script (v : Byte) : (s.setAcc v).script = s.script := rfl
@[simp] theorem State.setAcc_trace (v : Byte) : (s.setAcc v).trace = s.trace := rfl
@[simp] theorem State.setAcc_valDefined (v : Byte) : (s.setAcc v).valDefined = s.valDefined := rfl
@[simp] theorem State.setAcc_bufDefined (v : Byte) : (s.setAcc v).bufDefined = s.bufDefined := rfl
@[simp] theorem State.setAcc_nonce (v : Byte) : (s.setAcc v).nonce = s.nonce := rfl

@[simp] theorem State.setVal_acc (v : Word) : (s.setVal v).acc = s.acc := rfl
@[simp] theorem State.setVal_integrityEnabled (v : Word) : (s.setVal v).integrityEnabled = s.integrityEnabled := rfl
@[simp] theorem State.setVal_status (v : Word) : (s.setVal v).status = s.status := rfl
@[simp] theorem State.setVal_val (v : Word) : (s.setVal v).val = v := rfl
@[simp] theorem State.setVal_rlen (v : Word) : (s.setVal v).rlen = s.rlen := rfl
@[simp] theorem State.setVal_rbuf (v : Word) : (s.setVal v).rbuf = s.rbuf := rfl
@[simp] theorem State.setVal_busy (v : Word) : (s.setVal v).busy = s.busy := rfl
@[simp] theorem State.setVal_params (v : Word) : (s.setVal v).params = s.params := rfl
@[simp] theorem State.setVal_host (v : Word) : (s.setVal v).host = s.host := rfl
@[simp] theorem State.setVal_script (v : Word) : (s.setVal v).script = s.script := rfl
@[simp] theorem State.setVal_trace (v : Word) : (s.setVal v).trace = s.trace := rfl
@[simp] theorem State.setVal_valDefined (v : Word) : (s.setVal v).valDefined = true := rfl
@[simp] theorem State.setVal_bufDefined (v : Word) : (s.setVal v).bufDefined = s.bufDefined := rfl
@[simp] theorem State.setVal_nonce (v : Word) : (s.setVal v).nonce = s.nonce := rfl

@[simp] theorem State.setIntegrity_acc (b : Bool) : (s.setIntegrity b).acc = s.acc := rfl
@[simp] theorem State.setIntegrity_integrityEnabled (b : Bool) : (s.setIntegrity b).integrityEnabled = b := rfl
@[simp] theorem State.setIntegrity_status (b : Bool) : (s.setIntegrity b).status = s.status := rfl
@[simp] theorem State.setIntegrity_val (b : Bool) : (s.setIntegrity b).val = s.val := rfl
@[simp] theorem State.setIntegrity_rlen (b : Bool) : (s.setIntegrity b).rlen = s.rlen := rfl
@[simp] theorem State.setIntegrity_rbuf (b : Bool) : (s.setIntegrity b).rbuf = s.rbuf := rfl
@[simp] theorem State.setIntegrity_busy (b : Bool) : (s.setIntegrity b).busy = s.busy := rfl
@[simp] theorem State.setIntegrity_params (b : Bool) : (s.setIntegrity b).params = s.params := rfl
@[simp] theorem State.setIntegrity_host (b : Bool) : (s.setIntegrity b).host = s.host := rfl
@[simp] theorem State.setIntegrity_script (b : Bool) : (s.setIntegrity b).script = s.script := rfl
@[simp] theorem State.setIntegrity_trace (b : Bool) : (s.setIntegrity b).trace = s.trace := rfl
@[simp] theorem State.setIntegrity_valDefined (b : Bool) : (s.setIntegrity b).valDefined = s.valDefined := rfl
@[simp] theorem State.setIntegrity_bufDefined (b : Bool) : (s.setIntegrity b).bufDefined = s.bufDefined := rfl
@[simp] theorem State.setIntegrity_nonce (b : Bool) : (s.setIntegrity b).nonce = s.nonce := rfl

@[simp] theorem State.setBuf_acc (data : List Byte) : (s.setBuf data).acc = s.acc := rfl
@[simp] theorem State.setBuf_integrityEnabled (data : List Byte) : (s.setBuf data).integrityEnabled = s.integrityEnabled := rfl
@[simp] theorem State.setBuf_status (data : List Byte) : (s.setBuf data).status = s.status := rfl
@[simp] theorem State.setBuf_val (data : List Byte) : (s.setBuf data).val = s.val := rfl
@[simp] theorem State.setBuf_rlen (data : List Byte) : (s.setBuf data).rlen = BitVec.ofNat 6 data.length := rfl
@[simp] theorem State.setBuf_rbuf (data : List Byte) : (s.setBuf data).rbuf = (data ++ freeBytes s.nonce s.params.rxbuf).take s.params.rxbuf := rfl
@[simp] theorem State.setBuf_busy (data : List Byte) : (s.setBuf data).busy = s.busy := rfl
@[simp] theorem State.setBuf_params (data : List Byte) : (s.setBuf data).params = s.params := rfl
@[simp] theorem State.setBuf_host (data : List Byte) : (s.setBuf data).host = s.host := rfl
@[simp] theorem State.setBuf_script (data : List Byte) : (s.setBuf data).script = s.script := rfl
@[simp] theorem State.setBuf_trace (data : List Byte) : (s.setBuf data).trace = s.trace := rfl
@[simp] theorem State.setBuf_valDefined (data : List Byte) : (s.setBuf data).valDefined = s.valDefined := rfl
@[simp] theorem State.setBuf_bufDefined (data : List Byte) : (s.setBuf data).bufDefined = true := rfl
@[simp] theorem State.setBuf_nonce (data : List Byte) : (s.setBuf data).nonce = s.nonce + 1 := rfl

@[simp] theorem State.accept_acc (rest : List Word) : (s.accept rest).acc = s.acc := rfl
@[simp] theorem State.accept_integrityEnabled (rest : List Word) : (s.accept rest).integrityEnabled = s.integrityEnabled := rfl
@[simp] theorem State.accept_status (rest : List Word) : (s.accept rest).status = s.status := rfl
@[simp] theorem State.accept_val (rest : List Word) : (s.accept rest).val = s.val := rfl
@[simp] theorem State.accept_rlen (rest : List Word) : (s.accept rest).rlen = s.rlen := rfl
@[simp] theorem State.accept_rbuf (rest : List Word) : (s.accept rest).rbuf = s.rbuf := rfl
@[simp] theorem State.accept_busy (rest : List Word) : (s.accept rest).busy = true := rfl
@[simp] theorem State.accept_params (rest : List Word) : (s.accept rest).params = s.params := rfl
@[simp] theorem State.accept_host (rest : List Word) : (s.accept rest).host = rest := rfl
@[simp] theorem State.accept_script (rest : List Word) : (s.accept rest).script = s.script := rfl
@[simp] theorem State.accept_trace (rest : List Word) : (s.accept rest).trace = s.trace := rfl
@[simp] theorem State.accept_valDefined (rest : List Word) : (s.accept rest).valDefined = s.valDefined := rfl
@[simp] theorem State.accept_bufDefined (rest : List Word) : (s.accept rest).bufDefined = s.bufDefined := rfl
@[simp] theorem State.accept_nonce (rest : List Word) : (s.accept rest).nonce = s.nonce := rfl

@[simp] theorem State.issue_acc (w : Word) : (s.issue w).acc = s.acc := rfl
@[simp] theorem State.issue_integrityEnabled (w : Word) : (s.issue w).integrityEnabled = s.integrityEnabled := rfl
@[simp] theorem State.issue_status (w : Word) : (s.issue w).status = s.status := rfl
@[simp] theorem State.issue_val (w : Word) : (s.issue w).val = s.val := rfl
@[simp] theorem State.issue_rlen (w : Word) : (s.issue w).rlen = s.rlen := rfl
@[simp] theorem State.issue_rbuf (w : Word) : (s.issue w).rbuf = s.rbuf := rfl
@[simp] theorem State.issue_busy (w : Word) : (s.issue w).busy = false := rfl
@[simp] theorem State.issue_params (w : Word) : (s.issue w).params = s.params := rfl
@[simp] theorem State.issue_host (w : Word) : (s.issue w).host = w :: s.host := rfl
@[simp] theorem State.issue_script (w : Word) : (s.issue w).script = s.script := rfl
@[simp] theorem State.issue_trace (w : Word) : (s.issue w).trace = s.trace := rfl
@[simp] theorem State.issue_valDefined (w : Word) : (s.issue w).valDefined = s.valDefined := rfl
@[simp] theorem State.issue_bufDefined (w : Word) : (s.issue w).bufDefined = s.bufDefined := rfl
@[simp] theorem State.issue_nonce (w : Word) : (s.issue w).nonce = s.nonce := rfl

@[simp] theorem State.done_acc : s.done.acc = s.acc := rfl
@[simp] theorem State.done_integrityEnabled : s.done.integrityEnabled = s.integrityEnabled := rfl
@[simp] theorem State.done_status : s.done.status = statusOk := rfl
@[simp] theorem State.done_val : s.done.val = s.val := rfl
@[simp] theorem State.done_rlen : s.done.rlen = s.rlen := rfl
@[simp] theorem State.done_rbuf : s.done.rbuf = s.rbuf := rfl
@[simp] theorem State.done_busy : s.done.busy = false := rfl
@[simp] theorem State.done_params : s.done.params = s.params := rfl
@[simp] theorem State.done_host : s.done.host = s.host := rfl
@[simp] theorem State.done_script : s.done.script = s.script := rfl
@[simp] theorem State.done_trace : s.done.trace = s.trace := rfl
@[simp] theorem State.done_valDefined : s.done.valDefined = s.valDefined := rfl
@[simp] theorem State.done_bufDefined : s.done.bufDefined = s.bufDefined := rfl
@[simp] theorem State.done_nonce : s.done.nonce = s.nonce := rfl

@[simp] theorem State.raise_acc (e : ErrorKind) : (s.raise e).acc = s.acc := rfl
@[simp] theorem State.raise_integrityEnabled (e : ErrorKind) : (s.raise e).integrityEnabled = s.integrityEnabled := rfl
@[simp] theorem State.raise_status (e : ErrorKind) : (s.raise e).status = e.code := rfl
@[simp] theorem State.raise_val (e : ErrorKind) : (s.raise e).val = Config.freeWord s.nonce := rfl
@[simp] theorem State.raise_rlen (e : ErrorKind) : (s.raise e).rlen = Config.freeLen s.nonce := rfl
@[simp] theorem State.raise_rbuf (e : ErrorKind) : (s.raise e).rbuf = freeBytes s.nonce s.params.rxbuf := rfl
@[simp] theorem State.raise_busy (e : ErrorKind) : (s.raise e).busy = false := rfl
@[simp] theorem State.raise_params (e : ErrorKind) : (s.raise e).params = s.params := rfl
@[simp] theorem State.raise_host (e : ErrorKind) : (s.raise e).host = s.host := rfl
@[simp] theorem State.raise_script (e : ErrorKind) : (s.raise e).script = s.script := rfl
@[simp] theorem State.raise_trace (e : ErrorKind) : (s.raise e).trace = s.trace := rfl
@[simp] theorem State.raise_valDefined (e : ErrorKind) : (s.raise e).valDefined = false := rfl
@[simp] theorem State.raise_bufDefined (e : ErrorKind) : (s.raise e).bufDefined = false := rfl
@[simp] theorem State.raise_nonce (e : ErrorKind) : (s.raise e).nonce = s.nonce + 1 := rfl

@[simp] theorem State.transact_acc (call : BusCall) : (s.transact call).acc = s.acc := rfl
@[simp] theorem State.transact_integrityEnabled (call : BusCall) : (s.transact call).integrityEnabled = s.integrityEnabled := rfl
@[simp] theorem State.transact_status (call : BusCall) : (s.transact call).status = s.status := rfl
@[simp] theorem State.transact_val (call : BusCall) : (s.transact call).val = s.val := rfl
@[simp] theorem State.transact_rlen (call : BusCall) : (s.transact call).rlen = s.rlen := rfl
@[simp] theorem State.transact_rbuf (call : BusCall) : (s.transact call).rbuf = s.rbuf := rfl
@[simp] theorem State.transact_busy (call : BusCall) : (s.transact call).busy = s.busy := rfl
@[simp] theorem State.transact_params (call : BusCall) : (s.transact call).params = s.params := rfl
@[simp] theorem State.transact_host (call : BusCall) : (s.transact call).host = s.host := rfl
@[simp] theorem State.transact_script (call : BusCall) : (s.transact call).script = s.script.tail := rfl
@[simp] theorem State.transact_trace (call : BusCall) : (s.transact call).trace = s.trace ++ [⟨call, s.answerTo call⟩] := rfl
@[simp] theorem State.transact_valDefined (call : BusCall) : (s.transact call).valDefined = s.valDefined := rfl
@[simp] theorem State.transact_bufDefined (call : BusCall) : (s.transact call).bufDefined = s.bufDefined := rfl
@[simp] theorem State.transact_nonce (call : BusCall) : (s.transact call).nonce = s.nonce + 1 := rfl

end Sys2Proof.Machine
end

