-- ==== Sys2Proof/Laws/Ops.lean ====
section
/-! SUPPORT. For each shared operation one lemma that says once everything it can do, cited instead of unfolding it. -/

namespace Sys2Proof.Machine

/-! ## Bytes and answers -/

@[simp] theorem freeBytes_length (k n : Nat) : (freeBytes k n).length = n := by simp [freeBytes]

/-- `RBUF` has RXBUF bytes after a buffer write. -/
theorem setBuf_rbuf_length (data : List Byte) (s : State) : (s.setBuf data).rbuf.length = s.params.rxbuf := by
  simp

/-- The data bytes stand at the front of RBUF (R19), when they fit. -/
theorem setBuf_rbuf_take (data : List Byte) (s : State) (h : data.length ≤ s.params.rxbuf) :
    (s.setBuf data).rbuf.take data.length = data := by
  simp [List.take_take, Nat.min_eq_left h]

/-- An answer to a read carries exactly `rlen` bytes (R35, D9). -/
theorem answerTo_readCall_length (s : State) (a bytes : List Byte) (n : Nat) (h : s.answerTo (s.readCall a n) = .ok bytes) :
    bytes.length = n := by
  simp only [State.answerTo, State.readCall, fitAnswer] at h
  split at h
  · cases h
  · cases h
    simp

/-- An answer to a write carries no bytes (R36). -/
theorem answerTo_writeCall (s : State) (a bytes : List Byte) (h : s.answerTo (s.writeCall a) = .ok bytes) : bytes = [] := by
  simp only [State.answerTo, State.writeCall, fitAnswer] at h
  split at h
  · cases h
  · cases h
    rfl

/-- The next answer of the script is the answer a write gets. -/
theorem answerTo_writeCall_script (s : State) (a : List Byte) (x : BusAnswer) (xs : List BusAnswer) (h : s.script = x :: xs) :
    s.answerTo (s.writeCall a) = (match x with | .err k => .err k | .ok _ => .ok []) := by
  simp only [State.answerTo, State.writeCall, h, fitAnswer]
  cases x <;> rfl

/-- The next answer of the script is the answer a read gets, when it has as many bytes as were asked for. -/
theorem answerTo_readCall_script (s : State) (a bytes : List Byte) (n : Nat) (xs : List BusAnswer) (h : s.script = .ok bytes :: xs)
    (hn : bytes.length = n) : s.answerTo (s.readCall a n) = .ok bytes := by
  simp [State.answerTo, State.readCall, h, fitAnswer, ← hn]

/-- A transport error in the script is the answer whatever the call. -/
theorem answerTo_err_script (s : State) (call : BusCall) (k : TransportKind) (xs : List BusAnswer) (h : s.script = .err k :: xs) :
    s.answerTo call = .err k := by
  simp [State.answerTo, h, fitAnswer]

/-! ## The transport primitives -/

@[simp] theorem readOutcome_ok (bytes : List Byte) : readOutcome (.ok bytes) = .ok bytes := rfl

@[simp] theorem readOutcome_err (k : TransportKind) : readOutcome (.err k) = .error (.transport k) := rfl

@[simp] theorem writeOutcome_ok (bytes : List Byte) : writeOutcome (.ok bytes) = .ok () := rfl

@[simp] theorem writeOutcome_err (k : TransportKind) : writeOutcome (.err k) = .error (.transport k) := rfl

/-- Bytes are received only from a successful answer. -/
theorem readOutcome_eq_ok {x : BusAnswer} {bytes : List Byte} (h : readOutcome x = .ok bytes) : x = .ok bytes := by
  cases x with
  | err k => cases h
  | ok b => cases h; rfl

/-- The check of a protected read succeeds exactly when the byte after the data is the CRC of the domain, and then gives the data. -/
theorem checkCrc_eq_ok {addr : BitVec 7} {n : Nat} {bytes data : List Byte} (h : checkCrc addr n bytes = .ok data) :
    data = bytes.take n ∧ bytes[n]? = some (crc8 (readDomain addr data)) := by
  unfold checkCrc at h
  split at h
  · cases h
    exact ⟨rfl, by assumption⟩
  · cases h

/-- The check of a protected read fails with IntegrityError only. -/
theorem checkCrc_eq_error {addr : BitVec 7} {n : Nat} {bytes : List Byte} {e : ErrorKind} (h : checkCrc addr n bytes = .error e) :
    e = .integrity ∧ bytes[n]? ≠ some (crc8 (readDomain addr (bytes.take n))) := by
  unfold checkCrc at h
  split at h
  · cases h
  · cases h
    exact ⟨rfl, by assumption⟩

/-! ## Framed accesses -/

/-- What a framed read makes of the transport's answer: plain, the bytes; protected, the bytes after the check (R89, R90). -/
def readResult (s : State) (n : Nat) (answer : BusAnswer) : Except ErrorKind (List Byte) :=
  match readOutcome answer with
  | .error e => .error e
  | .ok bytes => if s.integrityEnabled then checkCrc s.params.devAddr n bytes else .ok bytes

/-- A framed read makes exactly one call, of `n` bytes or `n + 1` as the flag says (R98), and the state is changed by nothing else. -/
theorem readBytes_eq (a : List Byte) (n : Nat) (s : State) :
    readBytes a n s =
      (readResult s n (s.answerTo (s.readCall a (readLen s.integrityEnabled n))),
       s.transact (s.readCall a (readLen s.integrityEnabled n))) := by
  unfold readBytes readResult
  cases h : s.integrityEnabled
  · simp only [plainRead, busWriteRead, readLen, Bool.false_eq_true, if_false]
    cases s.answerTo (s.readCall a n) <;> rfl
  · simp only [protRead, busWriteRead, readLen, if_true]
    cases s.answerTo (s.readCall a (n + 1)) <;> simp

/-- A framed read that succeeds delivers `n` bytes. -/
theorem readResult_ok_length (a data : List Byte) (n : Nat) (s : State)
    (h : readResult s n (s.answerTo (s.readCall a (readLen s.integrityEnabled n))) = .ok data) : data.length = n := by
  unfold readResult at h
  split at h
  · cases h
  · rename_i bytes hr
    have hl := answerTo_readCall_length s a bytes _ (readOutcome_eq_ok hr)
    split at h
    · rename_i hf
      obtain ⟨rfl, -⟩ := checkCrc_eq_ok h
      simp [hl, hf, readLen]
    · rename_i hf
      cases h
      simpa [hf, readLen] using hl

/-- The write phase the facade write of WR_BYTE puts on the wire (R95). -/
def writeFrame (s : State) (protect : Bool) (w : List Byte) : List Byte :=
  if protect then protectedWrite s.params.devAddr w else w

/-- The facade write makes exactly one call, with the frame the flag and the selector say (R95). -/
theorem writeBytes_eq (a d : List Byte) (s : State) :
    writeBytes a d s = busWrite (writeFrame s (s.integrityEnabled && s.params.wrByteUsesSelector) (a ++ d)) s := by
  unfold writeBytes writeFrame
  split <;> rfl

/-- The write-back of `0x9017` makes exactly one call, with the frame the flag says (R111). -/
theorem cfgWrite_eq (w : HalfWord) (s : State) :
    cfgWrite w s =
      busWrite (writeFrame s s.integrityEnabled (s.params.cfgAddrBytes ++ cfgDataBytes s.params.cfgDataOrder w)) s := by
  unfold cfgWrite writeFrame
  split <;> rfl

/-- The read of `0x9017` (R110): one framed read of two bytes, composed big-endian. -/
theorem cfgRead_eq (s : State) :
    cfgRead s = ((readBytes s.params.cfgAddrBytes 2 s).1.map cfgValue, (readBytes s.params.cfgAddrBytes 2 s).2) := by
  unfold cfgRead
  rcases readBytes s.params.cfgAddrBytes 2 s with ⟨r, t⟩
  cases r <;> rfl

/-! ## The end of an operation -/

/-- An operation ends in one of two ways: with the error of its last step, or with its result stored and STATUS 0. -/
theorem conclude_cases {α : Type} (r : Except ErrorKind α × State) (store : α → State → State) :
    (∃ e, r.1 = .error e ∧ conclude r store = r.2.raise e) ∨ (∃ x, r.1 = .ok x ∧ conclude r store = (store x r.2).done) := by
  rcases r with ⟨r, t⟩
  cases r with
  | error e => exact .inl ⟨e, rfl, rfl⟩
  | ok x => exact .inr ⟨x, rfl, rfl⟩

@[simp] theorem conclude_error {α : Type} (e : ErrorKind) (t : State) (store : α → State → State) :
    conclude (.error e, t) store = t.raise e := rfl

@[simp] theorem conclude_ok {α : Type} (x : α) (t : State) (store : α → State → State) :
    conclude (.ok x, t) store = (store x t).done := rfl

/-- What the codes of R156 are. -/
theorem code_ne_zero (e : ErrorKind) : e.code ≠ 0 := by
  rcases e with _ | ⟨_ | _ | _⟩ | _ <;> decide

theorem code_le_five (e : ErrorKind) : e.code.toNat ≤ 5 := by
  rcases e with _ | ⟨_ | _ | _⟩ | _ <;> decide

/-! ## A step -/

/-- A step with no word to take, or while busy, changes nothing. -/
theorem step_wait (s : State) (h : s.busy = true ∨ s.host = []) : step s = .next s := by
  unfold step State.fetch
  rcases h with h | h
  · simp [h]
  · cases s.busy <;> simp [h]

/-- A step takes the host's next word. -/
theorem step_word (s : State) (w : Word) (rest : List Word) (hb : s.busy = false) (hh : s.host = w :: rest) :
    step s = (match decode w with
      | .ok i => exec i (s.accept rest)
      | .error _ => .next (s.accept rest).refuseWord) := by
  unfold step State.fetch
  simp only [hb, hh]
  cases decode w <;> simp

end Sys2Proof.Machine
end

