-- ==== Sys2Proof/Laws/Exec.lean ====
section
/-! SUPPORT. What each operation can do, said once: an inversion lemma per family, from which frames and invariants follow without
unfolding a meaning again. -/

namespace Sys2Proof.Machine

/-! ## Legal counts -/

theorem scalarCountOk_iff {n : Byte} : scalarCountOk n = true ↔ 1 ≤ n.toNat ∧ n.toNat ≤ 4 := by simp [scalarCountOk]

theorem bufCountOk_iff {rxbuf : Nat} {integrity : Bool} {n : Byte} :
    bufCountOk rxbuf integrity n = true ↔ 1 ≤ n.toNat ∧ readLen integrity n.toNat ≤ rxbuf := by simp [bufCountOk]

/-! ## Sends: WR_BYTE, CMD8, CMD16 -/

/-- An operation that is one write ends as the transport answers it. -/
theorem conclude_busWrite (w : List Byte) (s : State) :
    conclude (busWrite w s) (fun _ t => t) =
      (match s.answerTo (s.writeCall w) with
       | .err k => (s.transact (s.writeCall w)).raise (.transport k)
       | .ok _ => (s.transact (s.writeCall w)).done) := by
  unfold busWrite conclude
  cases s.answerTo (s.writeCall w) <;> simp

/-- WR_BYTE is one write of its frame (R95, R96). -/
theorem execWrByte_eq (reg v : Byte) (s : State) :
    execWrByte reg v s =
      .next (conclude (busWrite (writeFrame s (s.integrityEnabled && s.params.wrByteUsesSelector) [reg, v]) s) (fun _ t => t)) := by
  simp [execWrByte, writeBytes_eq]

/-! ## Reads: RD_SCALAR, RD_BUF -/

/-- The one call a read of `n` bytes of register `reg` makes in this state (R98). -/
abbrev State.registerCall (s : State) (reg n : Byte) : BusCall := s.readCall [reg] (readLen s.integrityEnabled n.toNat)

/-- RD_SCALAR does one of three things: refuse the count, report an error of its one call, or deliver the bytes. -/
theorem execRdScalar_cases {s t : State} {reg n : Byte} (h : execRdScalar reg n s = .next t) :
    (scalarCountOk n = false ∧ t = s.raise .argument) ∨
    (scalarCountOk n = true ∧ ∃ e, readResult s n.toNat (s.answerTo (s.registerCall reg n)) = .error e ∧
      t = (s.transact (s.registerCall reg n)).raise e) ∨
    (scalarCountOk n = true ∧ ∃ data, readResult s n.toNat (s.answerTo (s.registerCall reg n)) = .ok data ∧ data.length = n.toNat ∧
      t = (((s.transact (s.registerCall reg n)).setVal (compose data)).setBuf data).done) := by
  simp only [execRdScalar, readBytes_eq] at h
  injection h with h
  cases hc : scalarCountOk n with
  | false => exact .inl ⟨rfl, by simpa [hc] using h.symm⟩
  | true =>
    simp only [hc, if_true] at h
    cases hr : readResult s n.toNat (s.answerTo (s.registerCall reg n)) with
    | error e => rw [hr] at h; exact .inr (.inl ⟨rfl, e, rfl, h.symm⟩)
    | ok data => rw [hr] at h; exact .inr (.inr ⟨rfl, data, rfl, readResult_ok_length _ _ _ _ hr, h.symm⟩)

/-- RD_BUF does one of three things: refuse the count, report an error of its one call, or deliver the bytes. -/
theorem execRdBuf_cases {s t : State} {reg n : Byte} (h : execRdBuf reg n s = .next t) :
    (bufCountOk s.params.rxbuf s.integrityEnabled n = false ∧ t = s.raise .argument) ∨
    (bufCountOk s.params.rxbuf s.integrityEnabled n = true ∧
      ∃ e, readResult s n.toNat (s.answerTo (s.registerCall reg n)) = .error e ∧ t = (s.transact (s.registerCall reg n)).raise e) ∨
    (bufCountOk s.params.rxbuf s.integrityEnabled n = true ∧
      ∃ data, readResult s n.toNat (s.answerTo (s.registerCall reg n)) = .ok data ∧ data.length = n.toNat ∧
        t = ((s.transact (s.registerCall reg n)).setBuf data).done) := by
  simp only [execRdBuf, readBytes_eq] at h
  injection h with h
  cases hc : bufCountOk s.params.rxbuf s.integrityEnabled n with
  | false => exact .inl ⟨rfl, by simpa [hc] using h.symm⟩
  | true =>
    simp only [hc, if_true] at h
    cases hr : readResult s n.toNat (s.answerTo (s.registerCall reg n)) with
    | error e => rw [hr] at h; exact .inr (.inl ⟨rfl, e, rfl, h.symm⟩)
    | ok data => rw [hr] at h; exact .inr (.inr ⟨rfl, data, rfl, readResult_ok_length _ _ _ _ hr, h.symm⟩)

/-! ## Toggles: INTEG_EN, INTEG_DIS -/

/-- The call that reads `0x9017` (R110). -/
abbrev State.cfgReadCall (s : State) : BusCall := s.readCall s.params.cfgAddrBytes (readLen s.integrityEnabled 2)

/-- The call that writes `w` back to `0x9017` (R111). -/
abbrev State.cfgWriteCall (s : State) (w : HalfWord) : BusCall :=
  s.writeCall (writeFrame s s.integrityEnabled (s.params.cfgAddrBytes ++ cfgDataBytes s.params.cfgDataOrder w))

/-- The read-modify-write makes its read, and when that succeeds its write; the write's frame is that of the flag before it. -/
theorem cfgModify_eq (change : HalfWord → HalfWord) (s : State) :
    cfgModify change s =
      (match readResult s 2 (s.answerTo s.cfgReadCall) with
       | .error e => (.error e, s.transact s.cfgReadCall)
       | .ok data =>
         (writeOutcome ((s.transact s.cfgReadCall).answerTo (s.cfgWriteCall (change (cfgValue data)))) |>.map
            (fun _ => change (cfgValue data)),
          (s.transact s.cfgReadCall).transact (s.cfgWriteCall (change (cfgValue data))))) := by
  unfold cfgModify
  rw [cfgRead_eq, readBytes_eq]
  cases readResult s 2 (s.answerTo s.cfgReadCall) with
  | error e => rfl
  | ok data =>
    simp only [Except.map, cfgWrite_eq, busWrite]
    have hw : (s.transact s.cfgReadCall).writeCall
        (writeFrame (s.transact s.cfgReadCall) (s.transact s.cfgReadCall).integrityEnabled
          ((s.transact s.cfgReadCall).params.cfgAddrBytes ++
            cfgDataBytes (s.transact s.cfgReadCall).params.cfgDataOrder (change (cfgValue data)))) =
        s.cfgWriteCall (change (cfgValue data)) := rfl
    rw [hw]
    cases (s.transact s.cfgReadCall).answerTo (s.cfgWriteCall (change (cfgValue data))) <;> rfl

/-- A read-modify-write ends in one of three ways: its read fails, its write fails, or both succeed. -/
theorem conclude_cfgModify_cases (change : HalfWord → HalfWord) (store : HalfWord → State → State) (s : State) :
    (∃ e, readResult s 2 (s.answerTo s.cfgReadCall) = .error e ∧
      conclude (cfgModify change s) store = (s.transact s.cfgReadCall).raise e) ∨
    (∃ data, readResult s 2 (s.answerTo s.cfgReadCall) = .ok data ∧
      ((∃ k, (s.transact s.cfgReadCall).answerTo (s.cfgWriteCall (change (cfgValue data))) = .err k ∧
        conclude (cfgModify change s) store =
          ((s.transact s.cfgReadCall).transact (s.cfgWriteCall (change (cfgValue data)))).raise (.transport k)) ∨
       ((s.transact s.cfgReadCall).answerTo (s.cfgWriteCall (change (cfgValue data))) = .ok [] ∧
        conclude (cfgModify change s) store =
          (store (change (cfgValue data))
            ((s.transact s.cfgReadCall).transact (s.cfgWriteCall (change (cfgValue data))))).done))) := by
  rw [cfgModify_eq]
  cases hr : readResult s 2 (s.answerTo s.cfgReadCall) with
  | error e => exact .inl ⟨e, rfl, rfl⟩
  | ok data =>
    refine .inr ⟨data, rfl, ?_⟩
    cases hw : (s.transact s.cfgReadCall).answerTo (s.cfgWriteCall (change (cfgValue data))) with
    | err k => exact .inl ⟨k, rfl, by simp [hw, Except.map]⟩
    | ok bytes =>
      have hb : bytes = [] := answerTo_writeCall (s.transact s.cfgReadCall) _ bytes hw
      exact .inr ⟨by rw [hb], by simp [hw, Except.map]⟩

end Sys2Proof.Machine
end

