-- ==== Sys2Proof/Tests/Slice0.lean ====
section
/-! SUPPORT. Tests by evaluation: expected results are the vectors of spec/95_test_vectors.md, the examples of the operation rules, and
words written out from the tables of spec/30_encoding.md. The second half shows, for every statement with hypotheses, concrete values
that meet all of them together. -/

set_option Elab.async false

namespace Sys2Proof.Tests

open Sys2Proof.Machine Sys2Proof.Claims

/-! ## Helpers -/

/-- After reset, with this flag and these scripted answers. -/
def start (flag : Bool) (script : List BusAnswer) : State :=
  { State.reset with integrityEnabled := flag, script := script }

/-- The same with other parameters. -/
def startWith (p : Params) (flag : Bool) (script : List BusAnswer) : State :=
  { State.construct p with integrityEnabled := flag, script := script }

/-- One step in which the block takes this word. -/
def go (w : Word) (s : State) : Option State :=
  match step (s.issue w) with
  | .next t => some t
  | .fault _ => none
  | .refused _ => none

/-- STATUS and the calls made, after a step. -/
def calls (w : Word) (s : State) : Option (BitVec 4 × List BusCall) := (go w s).map (fun t => (t.status, t.trace.map (·.call)))

/-- STATUS and VAL as the host reads it, after a step. -/
def value (w : Word) (s : State) : Option (BitVec 4 × Option Word) :=
  (go w s).map (fun t => (t.status, match t.hostVal with | .ok v => some v | .error _ => none))

/-- RLEN and the bytes below it as the host reads them, after a step. -/
def buffer (w : Word) (s : State) : Option (Option (BitVec 6) × List (Option Byte)) :=
  (go w s).map (fun t =>
    (match t.hostRlen with | .ok v => some v | .error _ => none,
     (List.range 3).map (fun i => match t.hostRbuf i with | .ok b => some b | .error _ => none)))

/-- `WR w=[...] r=k` at the default address and deadline. -/
def wr (w : List Byte) (k : Nat) : BusCall := .writeRead 0x08 w k 1000

/-- `W w=[...]` at the default address. -/
def wo (w : List Byte) : BusCall := .write 0x08 w

/-- The state an operation leaves. -/
def after (i : Instr) (s : State) : State :=
  match exec i s with
  | .next t => t
  | .fault _ => s
  | .refused _ => s

theorem exec_after (i : Instr) (s : State) : exec i s = .next (after i s) := by cases i <;> rfl

/-! ## Well-formedness -/

theorem test_wf_rdScalar_zero : Instr.wellFormed 32 false (.rdScalar 0x12 0) = false := by decide +kernel
theorem test_wf_rdScalar_five : Instr.wellFormed 32 false (.rdScalar 0x12 5) = false := by decide +kernel
theorem test_wf_rdScalar_three : Instr.wellFormed 32 true (.rdScalar 0x12 3) = true := by decide +kernel
theorem test_wf_rdBuf_zero : Instr.wellFormed 32 false (.rdBuf 0x12 0) = false := by decide +kernel
theorem test_wf_rdBuf_plain_limit :
    Instr.wellFormed 32 false (.rdBuf 0x12 33) = false ∧ Instr.wellFormed 32 false (.rdBuf 0x12 32) = true := by decide +kernel
theorem test_wf_rdBuf_protected_limit :
    Instr.wellFormed 32 true (.rdBuf 0x12 32) = false ∧ Instr.wellFormed 32 true (.rdBuf 0x12 31) = true := by decide +kernel
theorem test_wf_params_rxbuf :
    Params.wellFormed { Params.default with rxbuf := 4 } = false ∧ Params.wellFormed { Params.default with rxbuf := 64 } = false := by
  decide +kernel
theorem test_wf_params_address :
    Params.wellFormed { Params.default with cfgAddrBytes := [] } = false ∧
    Params.wellFormed { Params.default with cfgAddrBytes := [0x17, 0x90, 0x00] } = false := by decide +kernel
theorem test_wf_params_default : Params.default.wellFormed = true := by decide +kernel

/-! ## Decoding: one word written out for every operation (R59, R60) -/

theorem test_decode_crcInit : decode 0x01000000 = .ok .crcInit ∧ encode .crcInit = 0x01000000 := by decide +kernel
theorem test_decode_crcByte : decode 0x02000011 = .ok (.crcByte 0x11) ∧ encode (.crcByte 0x11) = 0x02000011 := by decide +kernel
theorem test_decode_crcRead : decode 0x03000000 = .ok .crcRead ∧ encode .crcRead = 0x03000000 := by decide +kernel
theorem test_decode_rdScalar :
    decode 0x10120002 = .ok (.rdScalar 0x12 2) ∧ encode (.rdScalar 0x12 2) = 0x10120002 := by decide +kernel
theorem test_decode_rdBuf : decode 0x1112001F = .ok (.rdBuf 0x12 31) ∧ encode (.rdBuf 0x12 31) = 0x1112001F := by decide +kernel
theorem test_decode_wrByte :
    decode 0x12680003 = .ok (.wrByte 0x68 0x03) ∧ encode (.wrByte 0x68 0x03) = 0x12680003 := by decide +kernel
theorem test_decode_cmd8 : decode 0x20000012 = .ok (.cmd8 0x12) ∧ encode (.cmd8 0x12) = 0x20000012 := by decide +kernel
theorem test_decode_cmd16 : decode 0x21001234 = .ok (.cmd16 0x1234) ∧ encode (.cmd16 0x1234) = 0x21001234 := by decide +kernel
theorem test_decode_integEn : decode 0x30000000 = .ok .integEn ∧ encode .integEn = 0x30000000 := by decide +kernel
theorem test_decode_integDis : decode 0x31000000 = .ok .integDis ∧ encode .integDis = 0x31000000 := by decide +kernel

/-- The reserved words of 95_test_vectors.md whose `opc` is no operation's. -/
theorem test_decode_unknownOpc :
    decode 0x00000000 = .error (.unknownOpc 0x00) ∧ decode 0x04000000 = .error (.unknownOpc 0x04) ∧
    decode 0xFF000000 = .error (.unknownOpc 0xFF) := by decide +kernel

/-- The reserved words of 95_test_vectors.md with a field that must be 0. -/
theorem test_decode_nonzeroField :
    decode 0x01000001 = .error (.nonzeroField 0x01) ∧ decode 0x10000102 = .error (.nonzeroField 0x10) ∧
    decode 0x21010012 = .error (.nonzeroField 0x21) ∧ decode 0x30000001 = .error (.nonzeroField 0x30) := by decide +kernel

/-- Two patterns differ in a bit both masks cover: no word selects two rows. -/
theorem test_rows_do_not_overlap :
    opTable.Pairwise (fun r q => r.pattern &&& q.mask &&& r.mask ≠ q.pattern &&& r.mask &&& q.mask) := by decide +kernel

/-- The table of the model holds the masks and matches of spec/opcode_table.json. -/
theorem test_rows_are_the_tables : opTable.map (fun r => (r.mask, r.pattern)) = tableRows := by decide +kernel

theorem test_decodeTableWord :
    decodeTableWord 32 0x10120002 = some (.rdScalar 0x12 2) ∧ decodeTableWord 32 0x04000000 = none := by decide +kernel

/-! ## The CRC engine -/

/-- V2: DOC1 S3's domain. -/
theorem test_crc8_v2 : crc8 [0x11, 0x80] = 0xCB := by decide +kernel
/-- V7: the check input. -/
theorem test_crc8_v7 : crc8 [0x31, 0x32, 0x33, 0x34, 0x35, 0x36, 0x37, 0x38, 0x39] = 0xF4 := by decide +kernel
/-- V5, V6, V10, V12. -/
theorem test_crc8_others :
    crc8 [0x80] = 0x89 ∧ crc8 [0xFF] = 0xF3 ∧ crc8 [0x10, 0x02, 0x00] = 0x88 ∧ crc8 [0x02] = 0x0E := by decide +kernel
/-- R71's example: with `acc = 0xCB`, CRC_INIT leaves zero. -/
theorem test_crcInit :
    (go 0x01000000 { State.reset with acc := 0xCB }).map (fun t => (t.acc, t.status, t.busy)) = some (0x00, 0, false) := by
  decide +kernel
/-- R72's example, both bytes. -/
theorem test_crcByte :
    (go 0x02000011 State.reset).map (·.acc) = some 0x77 ∧
    (go 0x02000080 { State.reset with acc := 0x77 }).map (·.acc) = some 0xCB := by decide +kernel
/-- P1: CRC_READ delivers the accumulator; after reset it gives the CRC of the empty span. -/
theorem test_crcRead :
    value 0x03000000 { State.reset with acc := 0xCB } = some (0, some 0x000000CB) ∧ value 0x03000000 State.reset = some (0, some 0) := by
  decide +kernel

/-! ## Reads -/

/-- A2. -/
theorem test_rdScalar_a2 :
    value 0x10120002 (start false [.ok [0x12, 0x34]]) = some (0, some 0x00001234) ∧
    buffer 0x10120002 (start false [.ok [0x12, 0x34]]) = some (some 2, [some 0x12, some 0x34, none]) ∧
    calls 0x10120002 (start false [.ok [0x12, 0x34]]) = some (0, [wr [0x12] 2]) := by decide +kernel
/-- A9, A10. -/
theorem test_rdScalar_protected :
    value 0x10120004 (start true [.ok [0xFF, 0xFF, 0xFF, 0xFF, 0x8E]]) = some (0, some 0xFFFFFFFF) ∧
    calls 0x10120004 (start true [.ok [0xFF, 0xFF, 0xFF, 0xFF, 0x8E]]) = some (0, [wr [0x12] 5]) ∧
    value 0x10120002 (start true [.ok [0x12, 0x35, 0x38]]) = some (5, none) := by decide +kernel
/-- A15, with a short script: the count on the wire and the first bytes. -/
theorem test_rdBuf_a15 :
    calls 0x11120020 (start false [.ok (List.replicate 32 0x1F)]) = some (0, [wr [0x12] 32]) ∧
    calls 0x11120021 (start false [.ok []]) = some (1, []) ∧ calls 0x11120020 (start true [.ok []]) = some (1, []) := by decide +kernel
/-- A18. -/
theorem test_rdBuf_a18 :
    (go 0x1112001F (start true [.ok (List.replicate 31 0x00 ++ [0x44])])).map (fun t => (t.status, t.rlen, t.trace.map (·.call))) =
      some (0, 31, [wr [0x12] 32]) := by decide +kernel
/-- A20, A21, A22: the three transport errors. -/
theorem test_read_errors :
    value 0x10120002 (start false [.err .nack]) = some (2, none) ∧ value 0x10120002 (start false [.err .timeout]) = some (3, none) ∧
    value 0x10120002 (start true [.err .busError]) = some (4, none) := by decide +kernel

/-! ## Writes and commands -/

/-- B2, B6. -/
theorem test_wrByte :
    calls 0x12680003 (start true [.ok []]) = some (0, [wo [0x68, 0x03, 0xF6]]) ∧
    calls 0x12680003 (startWith { Params.default with wrByteUsesSelector := false } true [.ok []]) = some (0, [wo [0x68, 0x03]]) := by
  decide +kernel
/-- The other addresses of 95_test_vectors.md: `crc8([AW, 0x02, 0x00])` at `0x7F`. -/
theorem test_wrByte_other_address :
    calls 0x12020000 (startWith { Params.default with devAddr := 0x7F } true [.ok []]) = some (0, [.write 0x7F [0x02, 0x00, 0x6A]]) := by
  decide +kernel
/-- M8. -/
theorem test_cmd8 : calls 0x20000012 (start true [.ok []]) = some (0, [wo [0x12]]) := by decide +kernel
/-- M7, M9. -/
theorem test_cmd16 :
    calls 0x21001234 (start false [.ok []]) = some (0, [wo [0x34, 0x12]]) ∧
    calls 0x21000012 (start false [.err .timeout]) = some (3, [wo [0x12, 0x00]]) := by decide +kernel

/-! ## Integrity mode control -/

/-- M11. -/
theorem test_integEn_m11 :
    (go 0x30000000 (start false [.ok [0x12, 0x34], .ok []])).map (fun t => (t.integrityEnabled, t.val, t.trace.map (·.call))) =
      some (true, 0x00001235, [wr [0x17, 0x90] 2, wo [0x17, 0x90, 0x12, 0x35]]) := by decide +kernel
/-- M15: the write fails. -/
theorem test_integEn_m15 :
    (go 0x30000000 (start false [.ok [0x12, 0x34], .err .nack])).map (fun t => (t.integrityEnabled, t.status)) = some (false, 2) := by
  decide +kernel
/-- M13. -/
theorem test_integDis_m13 :
    (go 0x31000000 (start true [.ok [0x00, 0x01, 0xCE], .ok []])).map (fun t => (t.integrityEnabled, t.val, t.trace.map (·.call))) =
      some (false, 0x00000000, [wr [0x17, 0x90] 3, wo [0x17, 0x90, 0x00, 0x00, 0x9E]]) := by decide +kernel
/-- M14: a wrong CRC, no write. -/
theorem test_integDis_m14 :
    (go 0x31000000 (start true [.ok [0x00, 0x01, 0xCF]])).map (fun t => (t.integrityEnabled, t.status, t.trace.length)) =
      some (true, 5, 1) := by decide +kernel
/-- The alternative parameters of 95_test_vectors.md: `[0x90, 0x17]` and `lsb_first`, with the flag set. -/
theorem test_integEn_other_parameters :
    calls 0x30000000 (startWith { Params.default with cfgAddrBytes := [0x90, 0x17], cfgDataOrder := .lsbFirst } true
      [.ok [0x00, 0x01, 0xCE], .ok []]) = some (0, [wr [0x90, 0x17] 3, wo [0x90, 0x17, 0x01, 0x00, 0xC5]]) := by decide +kernel

/-! ## The step and the host's reads -/

/-- A reserved word: ArgumentError and no call; VAL, defined before, is no longer. -/
theorem test_step_reserved :
    calls 0x30000001 State.reset = some (1, []) ∧ value 0x30000001 { State.reset with valDefined := true } = some (1, none) := by
  decide +kernel
/-- While busy no word is taken. -/
theorem test_step_busy :
    step { State.reset with busy := true, host := [0x01000000] } = .next { State.reset with busy := true, host := [0x01000000] } := by
  rfl
/-- Whatever the oracle answers, a toggle as the first operation after reset ends. -/
theorem test_step_first : ((go 0x30000000 State.reset).map (fun _ => true)) = some true := by decide +kernel
/-- R176: VAL and RBUF cannot be read after reset, RLEN can. -/
theorem test_host_reset :
    State.reset.hostVal = .error .valUndefined ∧ State.reset.hostRlen = .ok 0 ∧ State.reset.hostRbuf 0 = .error (.rbufUndefined 0) := by
  decide +kernel

/-! ## Decoders and the written form -/

/-- Q1, Q2, Q3. -/
theorem test_dec_safety_a :
    decSafetyAlertA 0x40 = ⟨false, true, false, false, false, false⟩ ∧ decSafetyAlertA 0x43 = decSafetyAlertA 0x40 ∧
    decSafetyFaultA 0x43 = ⟨false, true, false, false, false, false, true, true⟩ := by decide +kernel
/-- Q5, Q6. -/
theorem test_dec_safety_b :
    decSafetyB 0x80 = ⟨true, false, false, false, false, false, false⟩ ∧
    decSafetyB 0x04 = ⟨false, false, false, false, false, false, false⟩ := by decide +kernel
/-- Q8. -/
theorem test_dec_battery_q8 :
    decBatteryStatus 0xA004 =
      ⟨true, true, false, .uninitialized, false, false, false, false, false, true, false, .normal⟩ := by decide +kernel
/-- Q14, Q15. -/
theorem test_dec_battery_others :
    decBatteryStatus 0x8C00 = ⟨true, false, false, .sealed, false, false, false, false, false, false, false, .normal⟩ ∧
    decBatteryStatus 0x4241 = ⟨false, false, false, .uninitialized, false, false, false, false, false, false, false, .shutdown⟩ := by
  decide +kernel
/-- Q17, Q18. -/
theorem test_dec_alarm :
    decAlarm 0x8005 = ⟨true, false, false, false, false, false, false, false, false, true, false, true⟩ ∧
    decAlarm 0x0138 = ⟨false, false, false, false, false, false, false, false, false, false, false, false⟩ := by decide +kernel
/-- Q20, Q21. -/
theorem test_dec_fetControl :
    decFetControl 0x03 = ⟨false, false, true, true⟩ ∧ decFetControl 0xFC = ⟨true, true, false, false⟩ := by decide +kernel
/-- Q22, Q24, Q25. -/
theorem test_dec_regout :
    decRegout 0x0E = ⟨false, true, .v3_3⟩ ∧ decRegout 0x17 = ⟨true, false, .v5_0⟩ ∧ decRegout 0xE0 = ⟨false, false, .v1_8⟩ := by
  decide +kernel
/-- R129, R176: S1's read reports its record, any failed read ReadFailed, and after reset there is no value to decode. -/
theorem test_report :
    DirectReg.safetyAlertA.report (after (.rdScalar 0x02 1) (start false [.ok [0x40]])) =
      .ok (.record (.safetyAlertA ⟨false, true, false, false, false, false⟩)) ∧
    DirectReg.safetyAlertA.report (after (.rdScalar 0x02 1) (start false [.err .timeout])) = .ok .readFailed ∧
    DirectReg.safetyAlertA.report State.reset = .error .valUndefined := by decide +kernel
/-- R66's examples of the written form. -/
theorem test_parse :
    parseLine "RD_SCALAR 0x12, 2" = some (.op (.rdScalar 0x12 2)) ∧ parseLine "CMD16 0x0090" = some (.op (.cmd16 0x0090)) ∧
    parseLine "INTEG_EN" = some (.op .integEn) := by decide +kernel
theorem test_parse_pseudo :
    (parseLine "CRC8 0x11, 128").map AsmLine.expand = some [.crcInit, .crcByte 0x11, .crcByte 0x80, .crcRead] ∧
    (parseLine "STAT_BATTERY").map AsmLine.expand = some [.rdScalar 0x12 2] ∧ parseLine "CMD8 256" = none := by decide +kernel
theorem test_show : showInstr (.wrByte 0x68 0x03) = "WR_BYTE 0x68, 0x03" ∧ showInstr (.cmd16 0x1234) = "CMD16 0x1234" := by
  decide +kernel

/-! ## The hypotheses of the statements can be met -/

/-- The step in which the block takes the word of `i`. -/
theorem step_issue (w : Word) (i : Instr) (s : State) (h : decode w = .ok i) :
    step (s.issue w) = .next (after i ((s.issue w).accept s.host)) := by
  rw [step_word (s.issue w) w s.host rfl rfl, h]
  exact exec_after _ _

theorem witness_CrcIsLinear : ([0x11, 0x80] : List Byte).length = ([0x00, 0x40] : List Byte).length := by decide

theorem witness_CrcDetectsAnyOneChangedByte : (0x34 : Byte) ≠ 0x35 := by decide

theorem witness_CrcOperationsComputeCrc8 :
    exec (.cmd8 0x12) (start false [.ok []]) = .next (after (.cmd8 0x12) (start false [.ok []])) ∧ ¬ writesAcc (.cmd8 0x12) :=
  ⟨exec_after _ _, by simp [writesAcc]⟩

/-- Both ends of the range. -/
theorem witness_ComposeIsBigEndian :
    (1 ≤ ([0x12] : List Byte).length ∧ ([0x12] : List Byte).length ≤ 4) ∧
    1 ≤ ([0x12, 0x34, 0x56, 0x78] : List Byte).length ∧ ([0x12, 0x34, 0x56, 0x78] : List Byte).length ≤ 4 := by decide

/-- The hypotheses of a plain read of `data` with room for it in `limit`. -/
def readsPlain (limit : Nat) (s : State) (reg n : Byte) (data : List Byte) : Prop :=
  s.params.wellFormed = true ∧ s.integrityEnabled = false ∧ 1 ≤ n.toNat ∧ n.toNat ≤ limit ∧
    s.answerTo (reads s [reg] n.toNat) = .ok data

/-- The hypotheses of a protected read of `data` with room for it in `limit`. -/
def readsProtected (limit : Nat) (s : State) (reg n : Byte) (data : List Byte) : Prop :=
  s.params.wellFormed = true ∧ s.integrityEnabled = true ∧ 1 ≤ n.toNat ∧ n.toNat ≤ limit ∧
    s.answerTo (reads s [reg] (n.toNat + 1)) = .ok (data ++ [crc8 (ar s :: data)])

/-- A1 and A4: one byte and four. -/
theorem witness_RdScalarPlainDeliversTheBytes :
    readsPlain 4 (start false [.ok [0x12]]) 0x12 1 [0x12] ∧
    readsPlain 4 (start false [.ok [0x12, 0x34, 0x56, 0x78]]) 0x12 4 [0x12, 0x34, 0x56, 0x78] := by
  unfold readsPlain; decide +kernel

/-- A5 and A8. -/
theorem witness_RdScalarProtectedDeliversTheBytes :
    readsProtected 4 (start true [.ok [0x12, 0x3C]]) 0x12 1 [0x12] ∧
    readsProtected 4 (start true [.ok [0x12, 0x34, 0x56, 0x78, 0x4C]]) 0x12 4 [0x12, 0x34, 0x56, 0x78] := by
  unfold readsProtected; decide +kernel

/-- One byte, and A15's count of 32. -/
theorem witness_RdBufPlainDeliversTheBytes :
    readsPlain 32 (start false [.ok [0x12]]) 0x12 1 [0x12] ∧
    readsPlain 32 (start false [.ok (List.replicate 32 0x1F)]) 0x12 32 (List.replicate 32 0x1F) := by
  unfold readsPlain; decide +kernel

/-- One byte, and A18's count of 31. -/
theorem witness_RdBufProtectedDeliversTheBytes :
    readsProtected 31 (start true [.ok [0x12, 0x3C]]) 0x12 1 [0x12] ∧
    readsProtected 31 (start true [.ok (List.replicate 31 0x00 ++ [0x44])]) 0x12 31 (List.replicate 31 0x00) := by
  unfold readsProtected; decide +kernel

/-- A13, A14, A16, A17, A19, and the largest count. -/
theorem witness_IllegalCountIsRefusedBeforeTheBus :
    ((0 : Byte).toNat < 1 ∨ 4 < (0 : Byte).toNat) ∧ ((5 : Byte).toNat < 1 ∨ 4 < (5 : Byte).toNat) ∧
    (State.reset.params.rxbuf < (if State.reset.integrityEnabled then (33 : Byte).toNat + 1 else (33 : Byte).toNat)) ∧
    ((start true []).params.rxbuf < (if (start true []).integrityEnabled then (32 : Byte).toNat + 1 else (32 : Byte).toNat)) ∧
    (State.reset.params.rxbuf < (if State.reset.integrityEnabled then (255 : Byte).toNat + 1 else (255 : Byte).toNat)) := by
  decide +kernel

/-- The hypotheses of a failing read with a legal count. -/
def readFails (s : State) (n : Byte) (limit : Nat) (k : TransportKind) : Prop :=
  1 ≤ n.toNat ∧ (if s.integrityEnabled then n.toNat + 1 else n.toNat) ≤ limit ∧
    s.answerTo (reads s [0x12] (if s.integrityEnabled then n.toNat + 1 else n.toNat)) = .err k

/-- Both operations at the ends of their ranges, both settings of the flag, all three kinds. -/
theorem witness_ReadReportsTheTransportError :
    readFails (start false [.err .nack]) 1 4 .nack ∧ readFails (start false [.err .timeout]) 4 4 .timeout ∧
    readFails (start true [.err .busError]) 3 4 .busError ∧ readFails (start false [.err .nack]) 32 32 .nack ∧
    readFails (start true [.err .timeout]) 31 32 .timeout := by
  unfold readFails; decide +kernel

/-- The hypotheses of a protected read that receives `data` and then `r`, with a legal count. -/
def readsWrong (s : State) (reg n r : Byte) (data : List Byte) (limit : Nat) : Prop :=
  s.integrityEnabled = true ∧ 1 ≤ n.toNat ∧ n.toNat + 1 ≤ limit ∧
    s.answerTo (reads s [reg] (n.toNat + 1)) = .ok (data ++ [r]) ∧ r ≠ crc8 (ar s :: data)

/-- S3: a flipped bit of the CRC, and four bytes of a bus stuck at zero; and the largest count of RD_BUF. -/
theorem witness_ProtectedReadRejectsAWrongCrc :
    readsWrong (start true [.ok [0x80, 0xCA]]) 0x04 1 0xCA [0x80] 5 ∧
    readsWrong (start true [.ok [0, 0, 0, 0, 0]]) 0x12 4 0x00 [0, 0, 0, 0] 5 ∧
    readsWrong (start true [.ok (List.replicate 31 0x00 ++ [0x45])]) 0x12 31 0x45 (List.replicate 31 0x00) 32 := by
  unfold readsWrong; decide +kernel

theorem witness_ScalarIsTheCompositionOfTheBuffer :
    (start false [.ok [0x12, 0x34]]).params.wellFormed = true ∧
    (after (.rdScalar 0x12 2) (start false [.ok [0x12, 0x34]])).status = 0 ∧
    (after (.rdBuf 0x12 2) (start false [.ok [0x12, 0x34]])).status = 0 := by decide +kernel

/-- Both settings of the flag; every operation gives the state `after` names (`exec_after`). -/
theorem witness_TheFlagSelectsTheFraming :
    (after (.rdScalar 0x12 2) (start false [.ok [0x12, 0x34]])).status = 0 ∧
    (after (.rdBuf 0x12 2) (start true [.ok [0xA0, 0x04, 0xCD]])).status = 0 ∧
    (after (.wrByte 0x68 0x03) (start true [.ok []])).status = 0 ∧ (start true [.ok []]).params.wrByteUsesSelector = true := by
  decide +kernel

/-- The hypothesis of a WR_BYTE that the transport accepts. -/
def accepts (s : State) (reg v : Byte) : Prop :=
  s.answerTo (writes s (framed s (s.integrityEnabled && s.params.wrByteUsesSelector) [reg, v])) = .ok []

/-- B1, B2 and B6: plain, protected, and plain with the flag set. -/
theorem witness_WrByteSendsItsFrame :
    accepts (start false [.ok []]) 0x68 0x03 ∧ accepts (start true [.ok []]) 0x68 0x03 ∧
    accepts (startWith { Params.default with wrByteUsesSelector := false } true [.ok []]) 0x68 0x03 := by
  unfold accepts; decide +kernel

theorem witness_Cmd8SendsOneByte : (start true [.ok []]).answerTo (writes (start true [.ok []]) [0x12]) = .ok [] := by decide +kernel

theorem witness_Cmd16SendsTheLowByteFirst :
    (0x1234 : HalfWord).toNat = 256 * (0x12 : Byte).toNat + (0x34 : Byte).toNat ∧
    (start true [.ok []]).answerTo (writes (start true [.ok []]) [0x34, 0x12]) = .ok [] := by decide +kernel

/-- B5, M9, and a failing CMD8. -/
theorem witness_SendReportsTheTransportError :
    (start false [.err .nack]).answerTo (writes (start false [.err .nack]) (framed (start false [.err .nack]) false [0x68, 0x03])) =
      .err .nack ∧
    (start false [.err .busError]).answerTo (writes (start false [.err .busError]) [0x12]) = .err .busError ∧
    (start false [.err .timeout]).answerTo (writes (start false [.err .timeout])
      [(0x0012 : HalfWord).extractLsb' 0 8, (0x0012 : HalfWord).extractLsb' 8 8]) = .err .timeout := by decide +kernel

/-- M1 to M6: the transport accepts each of the five frames. -/
theorem witness_SubcommandsSendTheirOpcodes :
    ∀ w ∈ ([[0x12, 0x00], [0x22, 0x00], [0x30, 0x00], [0x90, 0x00], [0x92, 0x00]] : List (List Byte)),
      (start true [.ok []]).answerTo (writes (start true [.ok []]) w) = .ok [] := by decide +kernel

/-- The hypotheses of a toggle that reads `hi`, `lo` and writes `w` back. -/
def toggles (s : State) (hi lo : Byte) (w : HalfWord) (answer : BusAnswer) : Prop :=
  s.answerTo (cfgReads s) = .ok (deviceBytes s [hi, lo]) ∧ (s.transact (cfgReads s)).answerTo (cfgWrites s w) = answer

/-- M11 and M17. -/
theorem witness_IntegEnSetsTheFlag :
    ((0x1235 : HalfWord).getLsbD 0 = true ∧
      (∀ j, 1 ≤ j → (0x1235 : HalfWord).getLsbD j = (pair 0x12 0x34).getLsbD j) ∧
      toggles (start false [.ok [0x12, 0x34], .ok []]) 0x12 0x34 0x1235 (.ok [])) ∧
    (0xABCD : HalfWord).getLsbD 0 = true ∧ pair 0xAB 0xCD = 0xABCD ∧
      toggles (start true [.ok [0xAB, 0xCD, 0x2B], .ok []]) 0xAB 0xCD 0xABCD (.ok []) := by
  refine ⟨⟨by decide, ?_, ?_⟩, by decide, by decide, ?_⟩
  · intro j hj
    rcases Nat.lt_or_ge j 16 with h | h
    · interval_cases j <;> decide
    · rw [BitVec.getLsbD_of_ge _ _ h, BitVec.getLsbD_of_ge _ _ h]
  · unfold toggles; decide +kernel
  · unfold toggles; decide +kernel

/-- M13, and P5's second operation. -/
theorem witness_IntegDisClearsTheFlag :
    ((0x0000 : HalfWord).getLsbD 0 = false ∧
      (∀ j, 1 ≤ j → (0x0000 : HalfWord).getLsbD j = (pair 0x00 0x01).getLsbD j) ∧
      toggles (start true [.ok [0x00, 0x01, 0xCE], .ok []]) 0x00 0x01 0x0000 (.ok [])) ∧
    (0xABCC : HalfWord).getLsbD 0 = false ∧ pair 0xAB 0xCC = 0xABCC ∧
      toggles (start false [.ok [0xAB, 0xCC], .ok []]) 0xAB 0xCC 0xABCC (.ok []) := by
  refine ⟨⟨by decide, ?_, ?_⟩, by decide, by decide, ?_⟩
  · intro j hj
    rcases Nat.lt_or_ge j 16 with h | h
    · interval_cases j <;> decide
    · rw [BitVec.getLsbD_of_ge _ _ h, BitVec.getLsbD_of_ge _ _ h]
  · unfold toggles; decide +kernel
  · unfold toggles; decide +kernel

/-- M16 and M14. -/
theorem witness_ToggleStopsWhenItsReadFails :
    (isToggle .integEn ∧ (start false [.err .timeout]).answerTo (cfgReads (start false [.err .timeout])) = .err .timeout) ∧
    isToggle .integDis ∧ (start true [.ok [0x00, 0x01, 0xCF]]).integrityEnabled = true ∧
    (start true [.ok [0x00, 0x01, 0xCF]]).answerTo (cfgReads (start true [.ok [0x00, 0x01, 0xCF]])) = .ok [0x00, 0x01, 0xCF] ∧
    (0xCF : Byte) ≠ crc8 [ar (start true [.ok [0x00, 0x01, 0xCF]]), 0x00, 0x01] := by
  unfold isToggle; decide +kernel

/-- M15, and a failing write of INTEG_DIS. -/
theorem witness_ToggleKeepsTheFlagWhenItsWriteFails :
    ((0x1235 : HalfWord) = pair 0x12 0x34 ||| 0x0001 ∧
      toggles (start false [.ok [0x12, 0x34], .err .nack]) 0x12 0x34 0x1235 (.err .nack)) ∧
    (0x0000 : HalfWord) = pair 0x00 0x01 &&& 0xFFFE ∧
      toggles (start true [.ok [0x00, 0x01, 0xCE], .err .busError]) 0x00 0x01 0x0000 (.err .busError) := by
  unfold toggles; decide +kernel

/-- The start of P5. -/
def p5 : State := start true [.ok [0xAB, 0xCD, 0x2B], .ok [], .ok [0xAB, 0xCD, 0x2B], .ok []]

/-- P5. -/
theorem witness_EnableThenDisableLeavesThePlainMode :
    (after .integEn p5).status = 0 ∧ (after .integDis (after .integEn p5)).status = 0 ∧
    (after .integDis (after .integEn p5)).val = 0xABCC := by decide +kernel

theorem witness_TheFlagChangesOnlyByASuccessfulToggle :
    (after .integEn (start false [.ok [0x12, 0x34], .ok []])).integrityEnabled ≠
      (start false [.ok [0x12, 0x34], .ok []]).integrityEnabled ∧
    (after .integDis (start true [.ok [0x00, 0x01, 0xCE], .ok []])).integrityEnabled ≠
      (start true [.ok [0x00, 0x01, 0xCE], .ok []]).integrityEnabled := by decide +kernel

/-- One failure of each kind of cause. -/
theorem witness_FailureLeavesNoDefinedResult :
    (after (.rdScalar 0x12 0) State.reset).status ≠ 0 ∧ (after (.cmd8 0x12) (start false [.err .nack])).status ≠ 0 ∧
    (after (.rdBuf 0x12 2) (start true [.ok [0x12, 0x35, 0x38]])).status ≠ 0 := by decide +kernel

/-- A success of each row of R20's matrix. -/
theorem witness_SuccessWritesOnlyTheMarkedRegisters :
    (after .crcInit State.reset).status = 0 ∧ (after .crcRead State.reset).status = 0 ∧
    (after (.rdScalar 0x12 1) (start false [.ok [0x12]])).status = 0 ∧ (after (.rdBuf 0x12 1) (start false [.ok [0x12]])).status = 0 ∧
    (after (.wrByte 0x68 0x03) (start false [.ok []])).status = 0 ∧
    (after .integEn (start false [.ok [0x12, 0x34], .ok []])).status = 0 := by decide +kernel

/-- The counts of the second clause at the ends of their ranges; `exec_after` gives the first clause's hypothesis for every operation. -/
theorem witness_EachOperationEndsWithItsOwnErrors :
    (¬ isCrcOp (.rdScalar 0x12 4) ∧ (1 ≤ (4 : Byte).toNat ∧ (4 : Byte).toNat ≤ 4)) ∧
    (¬ isCrcOp (.rdBuf 0x12 31) ∧ (1 ≤ (31 : Byte).toNat ∧ (31 : Byte).toNat ≤ 31)) ∧
    ¬ isCrcOp (.wrByte 0x68 0x03) ∧ ¬ isCrcOp .integDis ∧ isToggle .integDis ∧
    ((5 : BitVec 4) = transportCode .nack ∨ ((5 : BitVec 4) = 5 ∧ (writesBuf (.rdBuf 0x12 31) ∨ isToggle (.rdBuf 0x12 31)))) := by
  simp [isCrcOp, writesAcc, isToggle, writesBuf]

/-- Every branch of the order occurs: an argument error, a transport error, a wrong CRC, success, and a failing write. -/
theorem witness_TheFirstErrorIsTheOneReported :
    (after (.rdScalar 0x12 5) (start true [.err .nack])).status = 1 ∧ (after (.rdBuf 0x12 2) (start true [.err .nack])).status = 2 ∧
    (after (.rdScalar 0x12 2) (start true [.ok [0x12, 0x35, 0x38]])).status = 5 ∧
    (after .integEn (start false [.ok [0x12, 0x34], .err .timeout])).status = 3 ∧
    (after .integDis (start true [.ok [0x00, 0x01, 0xCF], .err .nack])).status = 5 := by decide +kernel

theorem witness_TransportCallsAreCounted :
    (after .integEn (start false [.ok [0x12, 0x34], .ok []])).trace.length = 2 ∧
    (after (.rdScalar 0x12 5) State.reset).trace.length = 0 ∧ (after (.cmd8 0x12) (start false [.ok []])).trace.length = 1 := by decide +kernel

theorem witness_TheFramerNeverReadsTheAccumulator :
    ¬ isCrcOp .integEn ∧ exec .integEn p5 = .next (after .integEn p5) :=
  ⟨by simp [isCrcOp, writesAcc], exec_after _ _⟩

theorem witness_EncodeOfDecodeIsTheWord : decode 0x21001234 = .ok (.cmd16 0x1234) := by decide +kernel

/-- An operation code of no row, and a field that must be 0. -/
theorem witness_ReservedWordsAreRefused :
    (∀ row ∈ tableRows, (0x04000000 : Word) &&& row.1 ≠ row.2) ∧ (∀ row ∈ tableRows, (0x30000001 : Word) &&& row.1 ≠ row.2) ∧
    (State.reset.issue 0x04000000).busy = false ∧ (State.reset.issue 0x04000000).host = 0x04000000 :: [] :=
  ⟨by simp [tableRows], by simp [tableRows], rfl, rfl⟩

theorem witness_StepRunsTheDecodedInstruction :
    (State.reset.issue 0x21001234).busy = false ∧ (State.reset.issue 0x21001234).host = 0x21001234 :: [] ∧
    decode 0x21001234 = .ok (.cmd16 0x1234) := by decide +kernel

theorem witness_TheBlockWaitsForACommandWord :
    ({ State.reset with busy := true } : State).busy = true ∧ State.reset.host = [] ∧
    exec .crcInit State.reset = .next (after .crcInit State.reset) := ⟨rfl, rfl, exec_after _ _⟩

/-- The defaults, and both ends of the range of RXBUF. -/
theorem witness_ResetIsSound :
    Params.default.wellFormed = true ∧ Params.wellFormed { Params.default with rxbuf := 5 } = true ∧
    Params.wellFormed { Params.default with rxbuf := 63 } = true := by decide +kernel

/-- A sound state from which a step runs an operation: reset with a word issued. -/
theorem witness_EveryStepKeepsTheStateSound :
    (State.reset.issue 0x01000000).Sound ∧ step (State.reset.issue 0x01000000) = .next (after .crcInit ((State.reset.issue 0x01000000).accept State.reset.host)) := by
  refine ⟨⟨?_, rfl, ?_, ?_, ?_, ?_⟩, step_issue 0x01000000 .crcInit State.reset (by decide +kernel)⟩ <;> decide +kernel

/-- After reset, with one call made. -/
def afterOneCall : State := { State.reset with trace := [⟨wo [0x12], .ok []⟩] }

/-- A trace that is not empty and sound, and a step from it that adds to it. -/
theorem witness_EveryStepKeepsTheTraceSound :
    (afterOneCall.issue 0x20000012).params.wellFormed = true ∧ (afterOneCall.issue 0x20000012).traceSound ∧
    step (afterOneCall.issue 0x20000012) =
      .next (after (.cmd8 0x12) ((afterOneCall.issue 0x20000012).accept afterOneCall.host)) := by
  refine ⟨by decide +kernel, ?_, step_issue 0x20000012 (.cmd8 0x12) _ (by decide +kernel)⟩
  simp [State.traceSound, State.issue, afterOneCall, callSound, answerSound, wo, State.reset, State.construct, Params.default]

/-- Different inputs that agree in the named bits, for each decoder (Q2, Q6, Q15, Q18, Q21, Q25). -/
theorem witness_UnnamedBitsAreIgnored :
    ((0x40 : Byte) &&& 0xFC = 0x43 &&& 0xFC) ∧ ((0x00 : Byte) &&& 0xFB = 0x04 &&& 0xFB) ∧
    ((0x0000 : HalfWord) &&& 0xBDBE = 0x4241 &&& 0xBDBE) ∧ ((0x0000 : HalfWord) &&& 0xFEC7 = 0x0138 &&& 0xFEC7) ∧
    ((0x0C : Byte) &&& 0x0F = 0xFC &&& 0x0F) ∧ ((0x00 : Byte) &&& 0x1F = 0xE0 &&& 0x1F) := by decide +kernel

/-- Q26: a transport error and a wrong CRC, and success with a defined VAL. -/
theorem witness_DecodersReportAFailedRead :
    (after (.rdScalar 0x12 2) (start false [.err .nack])).status ≠ 0 ∧
    (after (.rdScalar 0x12 2) (start true [.ok [0x12, 0x35, 0x38]])).status ≠ 0 ∧
    (after (.rdScalar 0x12 2) (start false [.ok [0x12, 0x34]])).status = 0 ∧
    (after (.rdScalar 0x12 2) (start false [.ok [0x12, 0x34]])).valDefined = true := by decide +kernel

/-- A status read, and the state after a failure and then a CMD8 that succeeds: STATUS is 0 and VAL has no defined value. -/
theorem witness_DecodersFaultOnlyWhereNoValueIsDefined :
    Pseudo.run (.stat .fetControl) (start false [.ok [0x03]]) = .next (after (.rdScalar 0x68 1) (start false [.ok [0x03]])) ∧
    (after (.cmd8 0x12) (after (.rdScalar 0x12 0) (start false [.ok []]))).status = 0 ∧
    (after (.cmd8 0x12) (after (.rdScalar 0x12 0) (start false [.ok []]))).valDefined = false :=
  ⟨by simp [Pseudo.run, Pseudo.expand, runAll, exec_after, DirectReg.opcode, DirectReg.width], by decide +kernel, by decide +kernel⟩

/-- S3 read plainly and under protection. -/
theorem witness_DecodersDoNotSeeTheVariant :
    (start false [.ok [0x80]]).params.wellFormed = true ∧ (start true [.ok [0x80, 0xCB]]).params.wellFormed = true ∧
    (start false [.ok [0x80]]).integrityEnabled = false ∧ (start true [.ok [0x80, 0xCB]]).integrityEnabled = true ∧
    (start false [.ok [0x80]]).answerTo
      (reads (start false [.ok [0x80]]) [DirectReg.safetyAlertB.opcode] DirectReg.safetyAlertB.width.toNat) = .ok [0x80] ∧
    (start true [.ok [0x80, 0xCB]]).answerTo
      (reads (start true [.ok [0x80, 0xCB]]) [DirectReg.safetyAlertB.opcode] (DirectReg.safetyAlertB.width.toNat + 1)) =
        .ok ([0x80] ++ [crc8 (ar (start true [.ok [0x80, 0xCB]]) :: [0x80])]) := by decide +kernel

end Sys2Proof.Tests
end

section
/-! How an operation ends. Every operation makes transport calls, and then either raises an error or writes the registers of its row of
R20 and is done. `exec_ends` says so once; the invariants below follow from it without opening a meaning again. -/

namespace Sys2Proof.Machine

/-- `MadeCalls s u`: the block came from `s` to `u` by transport calls alone. -/
inductive MadeCalls (s : State) : State → Prop where
  | none : MadeCalls s s
  | call {u : State} (before : MadeCalls s u) (c : BusCall) : MadeCalls s (u.transact c)

/-- `Stored i u w`: a successful `i` writes its results into `u`, which gives `w` (the rows of R20). A read stores as many bytes as its
legal count asks for (R86). -/
inductive Stored : Instr → State → State → Prop where
  | crcInit (u : State) : Stored .crcInit u (u.setAcc crcInitVal)
  | crcByte (d : Byte) (u : State) : Stored (.crcByte d) u (u.setAcc (crcStep u.acc d))
  | crcRead (u : State) : Stored .crcRead u (u.setVal (zext32 u.acc))
  | rdScalar {reg n : Byte} {data : List Byte} (u : State) (legal : scalarCountOk n = true) (length : data.length = n.toNat) :
      Stored (.rdScalar reg n) u ((u.setVal (compose data)).setBuf data)
  | rdBuf {reg n : Byte} {data : List Byte} (u : State) (legal : bufCountOk u.params.rxbuf u.integrityEnabled n = true)
      (length : data.length = n.toNat) : Stored (.rdBuf reg n) u (u.setBuf data)
  | wrByte (reg v : Byte) (u : State) : Stored (.wrByte reg v) u u
  | cmd8 (op : Byte) (u : State) : Stored (.cmd8 op) u u
  | cmd16 (op16 : HalfWord) (u : State) : Stored (.cmd16 op16) u u
  | integEn (w : HalfWord) (u : State) : Stored .integEn u ((u.setIntegrity true).setVal (zext32 w))
  | integDis (w : HalfWord) (u : State) : Stored .integDis u ((u.setIntegrity false).setVal (zext32 w))

/-- `Ends i s t`: from `s` the operation `i` ends in `t`, with an error or with its results stored. -/
inductive Ends (i : Instr) (s : State) : State → Prop where
  | failed {u : State} (calls : MadeCalls s u) (e : ErrorKind) : Ends i s (u.raise e)
  | succeeded {u w : State} (calls : MadeCalls s u) (stored : Stored i u w) : Ends i s w.done

/-- A send that stores nothing ends as its one write is answered. -/
theorem conclude_busWrite_ends {i : Instr} (hi : ∀ u, Stored i u u) (bytes : List Byte) (s : State) :
    Ends i s (conclude (busWrite bytes s) fun _ t => t) := by
  have calls : MadeCalls s (s.transact (s.writeCall bytes)) := .call .none _
  rcases conclude_cases (busWrite bytes s) (fun _ t => t) with ⟨e, -, h⟩ | ⟨_, -, h⟩ <;> rw [h]
  · exact .failed calls e
  · exact .succeeded calls (hi _)

/-- A toggle ends with the error of its read, with the error of its write, or with its results stored. -/
theorem conclude_cfgModify_ends {i : Instr} {store : HalfWord → State → State} (hi : ∀ w u, Stored i u (store w u))
    (change : HalfWord → HalfWord) (s : State) : Ends i s (conclude (cfgModify change s) store) := by
  have read : MadeCalls s (s.transact s.cfgReadCall) := .call .none _
  rcases conclude_cfgModify_cases change store s with ⟨e, -, h⟩ | ⟨data, -, ⟨k, -, h⟩ | ⟨-, h⟩⟩ <;> rw [h]
  · exact .failed read e
  · exact .failed (read.call _) _
  · exact .succeeded (read.call _) (hi _ _)

/-- Everything an operation can do. -/
theorem exec_ends {i : Instr} {s t : State} (h : exec i s = .next t) : Ends i s t := by
  cases i with
  | crcInit => cases h; exact .succeeded .none (.crcInit s)
  | crcByte d => cases h; exact .succeeded .none (.crcByte d s)
  | crcRead => cases h; exact .succeeded .none (.crcRead s)
  | rdScalar reg n =>
    rcases execRdScalar_cases h with ⟨-, rfl⟩ | ⟨-, e, -, rfl⟩ | ⟨legal, data, -, length, rfl⟩
    · exact .failed .none _
    · exact .failed (.call .none _) e
    · exact .succeeded (.call .none _) (.rdScalar _ legal length)
  | rdBuf reg n =>
    rcases execRdBuf_cases h with ⟨-, rfl⟩ | ⟨-, e, -, rfl⟩ | ⟨legal, data, -, length, rfl⟩
    · exact .failed .none _
    · exact .failed (.call .none _) e
    · exact .succeeded (.call .none _) (.rdBuf _ legal length)
  | wrByte reg v =>
    cases (execWrByte_eq reg v s).symm.trans h
    exact conclude_busWrite_ends (.wrByte reg v) _ s
  | cmd8 op => cases h; exact conclude_busWrite_ends (.cmd8 op) _ s
  | cmd16 op16 => cases h; exact conclude_busWrite_ends (.cmd16 op16) _ s
  | integEn => cases h; exact conclude_cfgModify_ends .integEn setBit0 s
  | integDis => cases h; exact conclude_cfgModify_ends .integDis clearBit0 s

/-! ## A sound state (spec/10_state.md section 3, spec/60_exceptions.md section 1) -/

/-- The part of `State.Sound` that holds in the middle of an operation too, while `busy` is set and STATUS is that of the operation
before: the parameters, and the size of RBUF and RLEN (R19). -/
structure State.BufSound (s : State) : Prop where
  params : s.params.wellFormed = true
  rbufLength : s.rbuf.length = s.params.rxbuf
  rlenBound : s.bufDefined = true → s.rlen.toNat ≤ s.params.rxbuf

/-- RXBUF holds the longest scalar (log 11). -/
theorem five_le_rxbuf {p : Params} (h : p.wellFormed = true) : 5 ≤ p.rxbuf := by
  simp only [Params.wellFormed, Bool.and_eq_true, decide_eq_true_eq] at h
  obtain ⟨⟨⟨atLeastFive, -⟩, -⟩, -⟩ := h
  exact atLeastFive

theorem readLen_ge (integrity : Bool) (n : Nat) : n ≤ readLen integrity n := by
  cases integrity <;> simp [readLen]

namespace State

variable {s u : State}

theorem Sound.bufSound (h : s.Sound) : s.BufSound := ⟨h.params, h.rbufLength, h.rlenBound⟩

theorem BufSound.accept (h : s.BufSound) (rest : List Word) : (s.accept rest).BufSound := ⟨h.params, h.rbufLength, h.rlenBound⟩

theorem BufSound.transact (h : s.BufSound) (c : BusCall) : (s.transact c).BufSound := ⟨h.params, h.rbufLength, h.rlenBound⟩

theorem BufSound.setAcc (h : s.BufSound) (v : Byte) : (s.setAcc v).BufSound := ⟨h.params, h.rbufLength, h.rlenBound⟩

theorem BufSound.setVal (h : s.BufSound) (v : Word) : (s.setVal v).BufSound := ⟨h.params, h.rbufLength, h.rlenBound⟩

theorem BufSound.setIntegrity (h : s.BufSound) (b : Bool) : (s.setIntegrity b).BufSound := ⟨h.params, h.rbufLength, h.rlenBound⟩

/-- Storing bytes that fit keeps the buffer's invariant: RLEN counts them in 6 bits, so it is at most their number. -/
theorem BufSound.setBuf (h : s.BufSound) {data : List Byte} (fits : data.length ≤ s.params.rxbuf) : (s.setBuf data).BufSound where
  params := h.params
  rbufLength := setBuf_rbuf_length data s
  rlenBound _ := by
    rw [setBuf_rlen, setBuf_params, BitVec.toNat_ofNat]
    exact (Nat.mod_le _ _).trans fits

theorem BufSound.of_madeCalls (h : s.BufSound) (calls : MadeCalls s u) : u.BufSound := by
  induction calls with
  | none => exact h
  | call _ c ih => exact ih.transact c

/-- Success: STATUS is 0, so nothing is claimed of undefined results. -/
theorem BufSound.done_sound (h : s.BufSound) : s.done.Sound where
  params := h.params
  idle := rfl
  rbufLength := h.rbufLength
  rlenBound := h.rlenBound
  statusCode := by simp [statusOk]
  failedUndefined failed := absurd rfl failed

/-- Failure: the code is one of R156 and no result register is defined, whatever the buffer held. -/
theorem raise_sound (h : s.params.wellFormed = true) (e : ErrorKind) : (s.raise e).Sound where
  params := h
  idle := rfl
  rbufLength := by simp
  rlenBound defined := nomatch defined
  statusCode := code_le_five e
  failedUndefined _ := ⟨rfl, rfl⟩

end State

/-- The results of every operation fit: a scalar has at most four bytes, and RD_BUF checks its count against RXBUF (R86). -/
theorem Stored.bufSound {i : Instr} {u w : State} (stored : Stored i u w) (h : u.BufSound) : w.BufSound := by
  cases stored with
  | crcInit => exact h.setAcc _
  | crcByte => exact h.setAcc _
  | crcRead => exact h.setVal _
  | rdScalar _ legal length =>
    have atMostFour := (scalarCountOk_iff.mp legal).2
    have roomForFive := five_le_rxbuf h.params
    exact (h.setVal _).setBuf (by rw [State.setVal_params]; omega)
  | rdBuf _ legal length =>
    have fits := (readLen_ge _ _).trans (bufCountOk_iff.mp legal).2
    exact h.setBuf (length ▸ fits)
  | wrByte => exact h
  | cmd8 => exact h
  | cmd16 => exact h
  | integEn => exact (h.setIntegrity true).setVal _
  | integDis => exact (h.setIntegrity false).setVal _

/-- An operation ends in a sound state, from a state that may be busy. -/
theorem exec_sound {i : Instr} {s t : State} (hs : s.BufSound) (h : exec i s = .next t) : t.Sound := by
  cases exec_ends h with
  | failed calls e => exact State.raise_sound (hs.of_madeCalls calls).params e
  | succeeded calls stored => exact (stored.bufSound (hs.of_madeCalls calls)).done_sound

/-- Settles O48: a step waits, runs an operation, or refuses a reserved word, and each keeps the state sound. -/
theorem everyStepKeepsTheStateSound : Obligations.EveryStepKeepsTheStateSound := by
  intro s t hs h
  cases hh : s.host with
  | nil =>
    rw [step_wait s (.inr hh)] at h
    cases h
    exact hs
  | cons w rest =>
    have taken : (s.accept rest).BufSound := hs.bufSound.accept rest
    rw [step_word s w rest hs.idle hh] at h
    cases hd : decode w with
    | ok i =>
      rw [hd] at h
      exact exec_sound taken h
    | error why =>
      rw [hd] at h
      cases h
      exact State.raise_sound taken.params .argument

/-! ## The flag (spec/10_state.md R12) -/

theorem MadeCalls.integrityEnabled_eq {s u : State} (calls : MadeCalls s u) : u.integrityEnabled = s.integrityEnabled := by
  induction calls with
  | none => rfl
  | call _ c ih => rw [State.transact_integrityEnabled, ih]

/-- Of the results an operation stores, only those of a toggle hold the flag. -/
theorem Stored.integrityEnabled {i : Instr} {u w : State} (stored : Stored i u w) :
    w.integrityEnabled = u.integrityEnabled ∨ (i = .integEn ∧ w.integrityEnabled = true) ∨
      (i = .integDis ∧ w.integrityEnabled = false) := by
  cases stored with
  | integEn => exact .inr (.inl ⟨rfl, rfl⟩)
  | integDis => exact .inr (.inr ⟨rfl, rfl⟩)
  | _ => exact .inl rfl

/-- Settles O31: calls and errors keep the flag, so a change of it was stored by a success. -/
theorem theFlagChangesOnlyByASuccessfulToggle : Obligations.TheFlagChangesOnlyByASuccessfulToggle := by
  intro i s t h changed
  cases exec_ends h with
  | failed calls e => exact absurd calls.integrityEnabled_eq changed
  | succeeded calls stored =>
    refine ⟨rfl, stored.integrityEnabled.resolve_left fun kept => changed ?_⟩
    exact kept.trans calls.integrityEnabled_eq

/-! ## Waiting for a word (spec/10_state.md R22) -/

/-- Both ends of an operation clear `busy`. -/
theorem exec_busy {i : Instr} {s t : State} (h : exec i s = .next t) : t.busy = false := by
  cases exec_ends h with
  | failed => rfl
  | succeeded => rfl

/-- Settles O44. -/
theorem theBlockWaitsForACommandWord : Obligations.TheBlockWaitsForACommandWord :=
  ⟨fun s busy => step_wait s (.inl busy), fun s noWord => step_wait s (.inr noWord), fun _ _ _ => exec_busy⟩

end Sys2Proof.Machine
end

section
/-! What the framer does not read. A change `before` of the state that neither the transport nor the framing can see goes through an
operation untouched, and shows at its end as the change `after`. The accumulator shows there as it was changed; STATUS and `busy` do not
show at all, since every end of an operation writes them. -/

namespace Sys2Proof.Machine

open Sys2Proof.Claims

/-- The framer does not see the change `before`, and an operation's end turns it into the change `after`. -/
structure Unseen (before after : State → State) : Prop where
  params (s : State) : (before s).params = s.params
  integrityEnabled (s : State) : (before s).integrityEnabled = s.integrityEnabled
  answerTo (s : State) (c : BusCall) : (before s).answerTo c = s.answerTo c
  transact (s : State) (c : BusCall) : (before s).transact c = before (s.transact c)
  setVal (s : State) (v : Word) : (before s).setVal v = before (s.setVal v)
  setIntegrity (s : State) (b : Bool) : (before s).setIntegrity b = before (s.setIntegrity b)
  setBuf (s : State) (data : List Byte) : (before s).setBuf data = before (s.setBuf data)
  done (s : State) : (before s).done = after s.done
  raise (s : State) (e : ErrorKind) : (before s).raise e = after (s.raise e)

namespace Unseen

variable {before after : State → State} (h : Unseen before after)
include h

theorem readCall_before (s : State) (a : List Byte) (n : Nat) : (before s).readCall a n = s.readCall a n := by
  rw [State.readCall, State.readCall, h.params]

theorem writeCall_before (s : State) (bytes : List Byte) : (before s).writeCall bytes = s.writeCall bytes := by
  rw [State.writeCall, State.writeCall, h.params]

theorem writeFrame_before (s : State) (protect : Bool) (w : List Byte) :
    writeFrame (before s) protect w = writeFrame s protect w := by
  rw [writeFrame, writeFrame, h.params]

theorem readResult_before (s : State) (n : Nat) (x : BusAnswer) : readResult (before s) n x = readResult s n x := by
  rw [readResult, readResult, h.params, h.integrityEnabled]

/-- A framed read takes the same bytes, and carries the change along. -/
theorem readBytes_before (s : State) (a : List Byte) (n : Nat) :
    readBytes a n (before s) = ((readBytes a n s).1, before (readBytes a n s).2) := by
  simp only [readBytes_eq, h.readCall_before, h.readResult_before, h.integrityEnabled, h.answerTo, h.transact]

theorem busWrite_before (s : State) (bytes : List Byte) :
    busWrite bytes (before s) = ((busWrite bytes s).1, before (busWrite bytes s).2) := by
  simp only [busWrite, h.writeCall_before, h.answerTo, h.transact]

theorem writeBytes_before (s : State) (a d : List Byte) :
    writeBytes a d (before s) = ((writeBytes a d s).1, before (writeBytes a d s).2) := by
  simp only [writeBytes_eq, h.writeFrame_before, h.params, h.integrityEnabled, h.busWrite_before]

/-- The read-modify-write of `0x9017` makes the same calls, and carries the change along. -/
theorem cfgModify_before (s : State) (change : HalfWord → HalfWord) :
    cfgModify change (before s) = ((cfgModify change s).1, before (cfgModify change s).2) := by
  simp only [cfgModify_eq, h.readCall_before, h.writeCall_before, h.writeFrame_before, h.readResult_before, h.params,
    h.integrityEnabled, h.answerTo, h.transact]
  cases readResult s 2 (s.answerTo s.cfgReadCall) <;> rfl

/-- The end of an operation shows the change, when what it stores does not depend on it. -/
theorem conclude_before {α : Type} {store : α → State → State} (hstore : ∀ x u, store x (before u) = before (store x u))
    (r : Except ErrorKind α × State) : conclude (r.1, before r.2) store = after (conclude r store) := by
  obtain ⟨r, u⟩ := r
  cases r with
  | error e => exact h.raise u e
  | ok x => rw [conclude_ok, conclude_ok, hstore, h.done]

theorem conclude_nothing (r : Except ErrorKind Unit × State) :
    conclude (r.1, before r.2) (fun _ u => u) = after (conclude r fun _ u => u) :=
  h.conclude_before (store := fun _ u => u) (fun _ _ => rfl) r

theorem conclude_toggle (b : Bool) (r : Except ErrorKind HalfWord × State) :
    conclude (r.1, before r.2) (fun w u => (u.setIntegrity b).setVal (zext32 w)) =
      after (conclude r fun w u => (u.setIntegrity b).setVal (zext32 w)) :=
  h.conclude_before (fun w u => by rw [h.setIntegrity, h.setVal]) r

/-- An operation of the framer does the same with the change as without it. -/
theorem exec_before {i : Instr} (hi : ¬ isCrcOp i) (s : State) :
    ∃ t, exec i s = .next t ∧ exec i (before s) = .next (after t) := by
  cases i with
  | crcInit => exact absurd (.inl (.inl rfl)) hi
  | crcByte d => exact absurd (.inl (.inr ⟨d, rfl⟩)) hi
  | crcRead => exact absurd (.inr rfl) hi
  | rdScalar reg n =>
    refine ⟨_, rfl, ?_⟩
    rw [exec, execRdScalar, h.readBytes_before, h.conclude_before fun data u => by rw [h.setVal, h.setBuf], h.raise, ← apply_ite after]
  | rdBuf reg n =>
    refine ⟨_, rfl, ?_⟩
    rw [exec, execRdBuf, h.readBytes_before, h.conclude_before fun data u => h.setBuf u data, h.raise, ← apply_ite after, h.params,
      h.integrityEnabled]
  | wrByte reg v => exact ⟨_, rfl, by rw [exec, execWrByte, h.writeBytes_before, h.conclude_nothing]⟩
  | cmd8 op => exact ⟨_, rfl, by rw [exec, execCmd8, h.busWrite_before, h.conclude_nothing]⟩
  | cmd16 op16 => exact ⟨_, rfl, by rw [exec, execCmd16, h.busWrite_before, h.conclude_nothing]⟩
  | integEn => exact ⟨_, rfl, by rw [exec, execIntegEn, h.cfgModify_before, h.conclude_toggle]⟩
  | integDis => exact ⟨_, rfl, by rw [exec, execIntegDis, h.cfgModify_before, h.conclude_toggle]⟩

end Unseen

/-- STATUS and `busy` replaced. -/
def State.setOutcome (status : BitVec 4) (busy : Bool) (s : State) : State := { s with status := status, busy := busy }

theorem unseen_setAcc (v : Byte) : Unseen (State.setAcc v) (State.setAcc v) := by
  constructor <;> intros <;> rfl

theorem unseen_setOutcome (status : BitVec 4) (busy : Bool) : Unseen (State.setOutcome status busy) id := by
  constructor <;> intros <;> rfl

/-- The CRC engine's operations do not read STATUS or `busy` either. -/
theorem exec_setOutcome_of_isCrcOp {i : Instr} (hi : isCrcOp i) (s : State) (status : BitVec 4) (busy : Bool) :
    exec i (s.setOutcome status busy) = exec i s := by
  rcases hi with (rfl | ⟨d, rfl⟩) | rfl <;> rfl

/-- Settles O37: the accumulator is a change the framer does not see. -/
theorem theFramerNeverReadsTheAccumulator : Obligations.TheFramerNeverReadsTheAccumulator := by
  intro i s t v hi h
  obtain ⟨t', ht, changed⟩ := (unseen_setAcc v).exec_before hi s
  cases h.symm.trans ht
  exact changed

/-- Settles O38: STATUS and `busy` are changes the framer does not see, and the end of every operation overwrites them. -/
theorem noOperationReadsStatus : Obligations.NoOperationReadsStatus := by
  intro i s status busy
  by_cases hi : isCrcOp i
  · exact exec_setOutcome_of_isCrcOp hi s status busy
  · obtain ⟨t, ht, same⟩ := (unseen_setOutcome status busy).exec_before hi s
    exact same.trans ht.symm

end Sys2Proof.Machine
end

section
/-! The wire (spec/20_memory.md section 2, D9). A transport call is the only thing that adds to the trace, so the trace stays sound when
each call an operation makes is one the transport admits. The bounds on its bytes come from the count checks of R86, from the size of a
frame, and from the parameters of log 11. -/

namespace Sys2Proof.Machine

variable {s t : State}

/-! ## What the parameters and the frames bound -/

theorem one_le_cfgAddrBytes_length {p : Params} (h : p.wellFormed = true) : 1 ≤ p.cfgAddrBytes.length := by
  simp only [Params.wellFormed, Bool.and_eq_true, decide_eq_true_eq] at h
  obtain ⟨⟨-, atLeastOne⟩, -⟩ := h
  exact atLeastOne

theorem cfgAddrBytes_length_le_two {p : Params} (h : p.wellFormed = true) : p.cfgAddrBytes.length ≤ 2 := by
  simp only [Params.wellFormed, Bool.and_eq_true, decide_eq_true_eq] at h
  obtain ⟨-, atMostTwo⟩ := h
  exact atMostTwo

theorem readLen_le_succ (integrity : Bool) (n : Nat) : readLen integrity n ≤ n + 1 := by
  cases integrity <;> simp [readLen]

@[simp] theorem cfgDataBytes_length (order : DataOrder) (w : HalfWord) : (cfgDataBytes order w).length = 2 := by
  cases order <;> rfl

theorem writeFrame_length_ge (s : State) (protect : Bool) (w : List Byte) : w.length ≤ (writeFrame s protect w).length := by
  cases protect <;> simp [writeFrame, protectedWrite]

/-- Protection adds the CRC byte and nothing else (R94). -/
theorem writeFrame_length_le (s : State) (protect : Bool) (w : List Byte) : (writeFrame s protect w).length ≤ w.length + 1 := by
  cases protect <;> simp [writeFrame, protectedWrite]

/-! ## Each call is one the transport admits -/

/-- Whatever the environment gives, the answer taken has the form of R35 and R36 (D9). -/
theorem fitAnswer_sound (k : Nat) (call : BusCall) (answer : BusAnswer) : answerSound call (fitAnswer k call answer) := by
  cases answer with
  | err kind => trivial
  | ok bytes =>
    cases call with
    | writeRead addr wbytes rlen deadline => simp [fitAnswer, answerSound]
    | write addr wbytes => rfl

theorem answerTo_sound (s : State) (call : BusCall) : answerSound call (s.answerTo call) := fitAnswer_sound _ _ _

/-- A write of bytes framed or not: four bytes at most before the CRC byte. -/
theorem writeCall_writeFrame_sound (s : State) (protect : Bool) {w : List Byte} (nonempty : 1 ≤ w.length) (short : w.length ≤ 4) :
    callSound s.params (s.writeCall (writeFrame s protect w)) :=
  ⟨rfl, nonempty.trans (writeFrame_length_ge s protect w), (writeFrame_length_le s protect w).trans (by omega)⟩

/-- A register read whose counted bytes fit the buffer: its write phase is the register's one byte. -/
theorem registerCall_sound (reg : Byte) {n : Byte} (nonzero : 1 ≤ n.toNat)
    (fits : readLen s.integrityEnabled n.toNat ≤ s.params.rxbuf) : callSound s.params (s.registerCall reg n) :=
  ⟨rfl, rfl, nonzero.trans (readLen_ge _ _), fits, le_rfl, by simp⟩

/-- A scalar and its CRC byte are five bytes at most, for which RXBUF has room. -/
theorem registerCall_sound_of_scalarCountOk (hp : s.params.wellFormed = true) (reg : Byte) {n : Byte}
    (legal : scalarCountOk n = true) : callSound s.params (s.registerCall reg n) := by
  obtain ⟨nonzero, atMostFour⟩ := scalarCountOk_iff.mp legal
  have withCrc := readLen_le_succ s.integrityEnabled n.toNat
  have roomForFive := five_le_rxbuf hp
  exact registerCall_sound reg nonzero (by omega)

theorem registerCall_sound_of_bufCountOk (reg : Byte) {n : Byte}
    (legal : bufCountOk s.params.rxbuf s.integrityEnabled n = true) : callSound s.params (s.registerCall reg n) := by
  obtain ⟨nonzero, fits⟩ := bufCountOk_iff.mp legal
  exact registerCall_sound reg nonzero fits

theorem cfgReadCall_sound (hp : s.params.wellFormed = true) : callSound s.params s.cfgReadCall := by
  have atLeastTwo := readLen_ge s.integrityEnabled 2
  have withCrc := readLen_le_succ s.integrityEnabled 2
  have roomForFive := five_le_rxbuf hp
  exact ⟨rfl, rfl, by omega, by omega, one_le_cfgAddrBytes_length hp, cfgAddrBytes_length_le_two hp⟩

/-- The longest write there is: two address bytes, two data bytes, and the CRC byte. -/
theorem cfgWriteCall_sound (hp : s.params.wellFormed = true) (w : HalfWord) : callSound s.params (s.cfgWriteCall w) := by
  have nonempty := one_le_cfgAddrBytes_length hp
  have atMostTwo := cfgAddrBytes_length_le_two hp
  apply writeCall_writeFrame_sound <;> rw [List.length_append, cfgDataBytes_length] <;> omega

/-! ## The invariant of the wire -/

/-- What every update of the state keeps, in the middle of an operation too: legal parameters, which bound the calls still to come, and a
sound trace. -/
structure State.WireSound (s : State) : Prop where
  params : s.params.wellFormed = true
  trace : s.traceSound

namespace State.WireSound

/-- An update of other registers keeps the wire sound. -/
theorem of_eq (h : s.WireSound) (params : t.params = s.params) (trace : t.trace = s.trace) : t.WireSound where
  params := params ▸ h.params
  trace := by
    rw [State.traceSound, params, trace]
    exact h.trace

theorem accept (h : s.WireSound) (rest : List Word) : (s.accept rest).WireSound := h.of_eq rfl rfl

theorem raise (h : s.WireSound) (e : ErrorKind) : (s.raise e).WireSound := h.of_eq rfl rfl

theorem done (h : s.WireSound) : s.done.WireSound := h.of_eq rfl rfl

/-- A call the transport admits goes to the end of the trace with an answer of the right form. -/
theorem transact (h : s.WireSound) {c : BusCall} (hc : callSound s.params c) : (s.transact c).WireSound where
  params := h.params
  trace := by
    intro e he
    rw [State.transact_trace, List.mem_append, List.mem_singleton] at he
    rcases he with earlier | rfl
    · exact h.trace e earlier
    · exact ⟨hc, answerTo_sound s c⟩

/-- The end of an operation makes no call. -/
theorem concluded {α : Type} {r : Except ErrorKind α × State} (h : r.2.WireSound) {store : α → State → State}
    (storeParams : ∀ x u, (store x u).params = u.params) (storeTrace : ∀ x u, (store x u).trace = u.trace) :
    (conclude r store).WireSound := by
  rcases conclude_cases r store with ⟨e, -, ends⟩ | ⟨x, -, ends⟩ <;> rw [ends]
  · exact h.raise e
  · exact (h.of_eq (storeParams x r.2) (storeTrace x r.2)).done

theorem readBytes (h : s.WireSound) {reg n : Byte} (hc : callSound s.params (s.registerCall reg n)) :
    (readBytes [reg] n.toNat s).2.WireSound := by
  rw [readBytes_eq]
  exact h.transact hc

/-- An operation that is one write, framed or not. -/
theorem send (h : s.WireSound) (protect : Bool) {w : List Byte} (nonempty : 1 ≤ w.length) (short : w.length ≤ 4) :
    (conclude (busWrite (writeFrame s protect w) s) fun _ t => t).WireSound :=
  have write : (busWrite (writeFrame s protect w) s).2.WireSound := h.transact (writeCall_writeFrame_sound s protect nonempty short)
  write.concluded (fun _ _ => rfl) fun _ _ => rfl

/-- The read of `0x9017` is made always, the write-back when the read succeeded. -/
theorem cfgModify (h : s.WireSound) (change : HalfWord → HalfWord) : (cfgModify change s).2.WireSound := by
  have read : (s.transact s.cfgReadCall).WireSound := h.transact (cfgReadCall_sound h.params)
  rw [cfgModify_eq]
  cases readResult s 2 (s.answerTo s.cfgReadCall) with
  | error e => exact read
  | ok data => exact read.transact (cfgWriteCall_sound h.params _)

end State.WireSound

/-! ## Operations and steps -/

/-- Every operation keeps the wire sound; a count that is not legal is refused before any call (R86). -/
theorem exec_wireSound {i : Instr} (hs : s.WireSound) (h : exec i s = .next t) : t.WireSound := by
  cases i with
  | crcInit => cases h; exact hs.of_eq rfl rfl
  | crcByte d => cases h; exact hs.of_eq rfl rfl
  | crcRead => cases h; exact hs.of_eq rfl rfl
  | rdScalar reg n =>
    cases h
    split
    next legal =>
      have read := hs.readBytes (registerCall_sound_of_scalarCountOk hs.params reg legal)
      exact read.concluded (fun _ _ => rfl) fun _ _ => rfl
    next => exact hs.raise .argument
  | rdBuf reg n =>
    cases h
    split
    next legal => exact (hs.readBytes (registerCall_sound_of_bufCountOk reg legal)).concluded (fun _ _ => rfl) fun _ _ => rfl
    next => exact hs.raise .argument
  | wrByte reg v =>
    cases (execWrByte_eq reg v s).symm.trans h
    exact hs.send _ (w := [reg, v]) (by simp) (by simp)
  | cmd8 op => cases h; exact hs.send false (w := [op]) (by simp) (by simp)
  | cmd16 op16 => cases h; exact hs.send false (w := cmd16Frame op16) (by simp [cmd16Frame]) (by simp [cmd16Frame])
  | integEn => cases h; exact (hs.cfgModify setBit0).concluded (fun _ _ => rfl) fun _ _ => rfl
  | integDis => cases h; exact (hs.cfgModify clearBit0).concluded (fun _ _ => rfl) fun _ _ => rfl

/-- Everything a step can do: wait, refuse a reserved word, or run an operation. -/
theorem step_cases (h : step s = .next t) :
    t = s ∨ (∃ rest, t = (s.accept rest).refuseWord) ∨ ∃ rest i, exec i (s.accept rest) = .next t := by
  cases hb : s.busy with
  | true =>
    rw [step_wait s (.inl hb)] at h
    cases h
    exact .inl rfl
  | false =>
    cases hh : s.host with
    | nil =>
      rw [step_wait s (.inr hh)] at h
      cases h
      exact .inl rfl
    | cons w rest =>
      rw [step_word s w rest hb hh] at h
      cases hd : decode w with
      | error why =>
        rw [hd] at h
        cases h
        exact .inr (.inl ⟨rest, rfl⟩)
      | ok i =>
        rw [hd] at h
        exact .inr (.inr ⟨rest, i, h⟩)

theorem step_wireSound (hs : s.WireSound) (h : step s = .next t) : t.WireSound := by
  rcases step_cases h with rfl | ⟨rest, rfl⟩ | ⟨rest, i, run⟩
  · exact hs
  · exact (hs.accept rest).raise .argument
  · exact exec_wireSound (hs.accept rest) run

/-- Settles O49: legal parameters and a sound trace are an invariant of the step. -/
theorem everyStepKeepsTheTraceSound : Obligations.EveryStepKeepsTheTraceSound :=
  fun _ _ params trace h => (step_wireSound ⟨params, trace⟩ h).trace

end Sys2Proof.Machine
end

section
/-! The command word (spec/30_encoding.md section 2). `decode_eq_ok_iff_eq_encode` says that the words of `decode` are exactly those of
`encode`, and the two directions of the round trip are its two halves. Each row of the table builds one operation, and no two rows have
the same `opc`, so the row that selects a word is the only one and the order of the table does not matter. That the row of an operation
selects one word for each value of the operands is a matter of the four fields: the mask keeps those the table fixes, and the operands
are the others. -/

namespace Sys2Proof

/-! ## The fields of a mask and of a match, which the table writes as numerals -/

theorem extractLsb'_ofNat_of_le {start len width : Nat} (h : start + len ≤ width) (n : Nat) :
    (BitVec.ofNat width n).extractLsb' start len = BitVec.ofNat len (n / 2 ^ start) := by
  ext i hi
  have inside : start + i < width := by omega
  simp [inside, hi, ← BitVec.getLsbD_eq_getElem, BitVec.getLsbD_ofNat, Nat.testBit_div_two_pow, Nat.add_comm]

@[simp] theorem Word.opc_ofNat (n : Nat) : Word.opc (BitVec.ofNat 32 n) = BitVec.ofNat 8 (n / 2 ^ 24) :=
  extractLsb'_ofNat_of_le (by decide) n

@[simp] theorem Word.a_ofNat (n : Nat) : Word.a (BitVec.ofNat 32 n) = BitVec.ofNat 8 (n / 2 ^ 16) :=
  extractLsb'_ofNat_of_le (by decide) n

@[simp] theorem Word.b_ofNat (n : Nat) : Word.b (BitVec.ofNat 32 n) = BitVec.ofNat 8 (n / 2 ^ 8) :=
  extractLsb'_ofNat_of_le (by decide) n

@[simp] theorem Word.c_ofNat (n : Nat) : Word.c (BitVec.ofNat 32 n) = BitVec.ofNat 8 (n / 2 ^ 0) :=
  extractLsb'_ofNat_of_le (by decide) n

@[simp] theorem and_byteMask (b : Byte) : b &&& 255#8 = b := BitVec.and_allOnes

/-! ## The row that selects a word -/

/-- No two rows have the same operation code (R60). -/
theorem nodup_opTable_opc : (opTable.map fun r => Word.opc r.pattern).Nodup := by decide

theorem opc_mask_of_mem_opTable {r : OpRow} (hr : r ∈ opTable) : Word.opc r.mask = 255#8 := by
  have all : ∀ b ∈ opTable.map fun r => Word.opc r.mask, b = 255#8 := by decide
  exact all _ (List.mem_map_of_mem hr)

namespace OpRow

variable {r q : OpRow} {w : Word}

theorem opc_eq_of_selects (hr : r ∈ opTable) (h : r.selects w = true) : Word.opc w = Word.opc r.pattern := by
  obtain ⟨opc, -⟩ := (r.selects_iff w).1 h
  rwa [opc_mask_of_mem_opTable hr, and_byteMask] at opc

theorem eq_of_selects (hr : r ∈ opTable) (hq : q ∈ opTable) (hrw : r.selects w = true) (hqw : q.selects w = true) : r = q :=
  List.inj_on_of_nodup_map nodup_opTable_opc hr hq ((opc_eq_of_selects hr hrw).symm.trans (opc_eq_of_selects hq hqw))

end OpRow

theorem mem_and_selects_of_find? {r : OpRow} {w : Word} (found : opTable.find? (fun r => r.selects w) = some r) :
    r ∈ opTable ∧ r.selects w = true :=
  ⟨List.mem_of_find?_eq_some found, List.find?_some (p := fun r => OpRow.selects r w) found⟩

/-- A word decodes to what any row that selects it builds (R60). -/
theorem decode_eq_ok_iff_exists_row (w : Word) (i : Instr) :
    decode w = .ok i ↔ ∃ r ∈ opTable, r.selects w = true ∧ r.build w = i := by
  rw [decode_eq_ok_iff]
  constructor
  · rintro ⟨r, found, built⟩
    obtain ⟨hr, selected⟩ := mem_and_selects_of_find? found
    exact ⟨r, hr, selected, built⟩
  · rintro ⟨r, hr, selected, rfl⟩
    cases found : opTable.find? fun r => r.selects w with
    | none => exact absurd selected (List.find?_eq_none.1 found r hr)
    | some q =>
      obtain ⟨hq, first⟩ := mem_and_selects_of_find? found
      cases OpRow.eq_of_selects hq hr first selected
      exact ⟨r, rfl, rfl⟩

/-! ## The row of an operation -/

theorem rowOf_lt (i : Instr) : Laws.rowOf i < opTable.length := by
  cases i <;> simp [Laws.rowOf, opTable]

/-- The row of the table that an operation is written by. -/
def Instr.row (i : Instr) : OpRow := opTable[Laws.rowOf i]'(rowOf_lt i)

theorem Instr.row_mem (i : Instr) : i.row ∈ opTable := List.getElem_mem (rowOf_lt i)

/-- A row builds no operation but its own. -/
theorem row_build {r : OpRow} (hr : r ∈ opTable) (w : Word) : (r.build w).row = r := by
  simp only [opTable, List.mem_cons, List.not_mem_nil, or_false] at hr
  rcases hr with rfl | rfl | rfl | rfl | rfl | rfl | rfl | rfl | rfl | rfl <;> rfl

theorem assembleOp16_eq_iff (b c : Byte) (op16 : HalfWord) :
    assembleOp16 b c = op16 ↔ b = op16.extractLsb' 8 8 ∧ c = op16.extractLsb' 0 8 := by
  constructor
  · rintro rfl
    obtain ⟨high, low⟩ := extractLsb'_assembleOp16 b c
    exact ⟨high.symm, low.symm⟩
  · rintro ⟨rfl, rfl⟩
    exact assembleOp16_bytes op16

/-- The row of an operation selects a word, and builds the operation from it, just when the word is the operation's command word. -/
theorem row_selects_and_build_iff (i : Instr) (w : Word) : i.row.selects w = true ∧ i.row.build w = i ↔ w = encode i := by
  rw [OpRow.selects_iff, Word.eq_iff_fields]
  cases i with
  | crcInit | crcByte | crcRead | cmd8 | integEn | integDis => simp [Instr.row, Laws.rowOf, opTable, encode, and_assoc]
  | rdScalar | rdBuf | wrByte => simp [Instr.row, Laws.rowOf, opTable, encode, and_assoc, and_left_comm]
  | cmd16 => simp [Instr.row, Laws.rowOf, opTable, encode, and_assoc, assembleOp16_eq_iff]

/-! ## The round trip -/

/-- The only word that decodes to an operation is its command word (R59, R60). -/
theorem decode_eq_ok_iff_eq_encode (w : Word) (i : Instr) : decode w = .ok i ↔ w = encode i := by
  rw [decode_eq_ok_iff_exists_row, ← row_selects_and_build_iff]
  constructor
  · rintro ⟨r, hr, selected, rfl⟩
    rw [row_build hr]
    exact ⟨selected, rfl⟩
  · exact fun h => ⟨i.row, i.row_mem, h⟩

/-- Settles O39: the command word of an operation decodes to it. -/
theorem decodeOfEncodeIsTheInstruction : Obligations.DecodeOfEncodeIsTheInstruction :=
  fun i => (decode_eq_ok_iff_eq_encode (encode i) i).2 rfl

/-- Settles O40: no other word decodes to it. -/
theorem encodeOfDecodeIsTheWord : Obligations.EncodeOfDecodeIsTheWord :=
  fun w i h => ((decode_eq_ok_iff_eq_encode w i).1 h).symm

/-- Settles O41: each of the words is the command word of its operation. -/
theorem wordsOfTheSpecDecode : Obligations.WordsOfTheSpecDecode := by
  simp [Obligations.WordsOfTheSpecDecode, decode_eq_ok_iff_eq_encode, encode, commandWord]

/-! ## Reserved words (R63) -/

theorem tableRows_eq : Claims.tableRows = opTable.map fun r => (r.mask, r.pattern) := rfl

theorem decode_reserved {w : Word} (h : ∀ row ∈ Claims.tableRows, w &&& row.1 ≠ row.2) : ∃ why, decode w = .error why := by
  cases hd : decode w with
  | error why => exact ⟨why, rfl⟩
  | ok i =>
    obtain ⟨r, hr, selected, -⟩ := (decode_eq_ok_iff_exists_row w i).1 hd
    have inTable : (r.mask, r.pattern) ∈ Claims.tableRows := tableRows_eq ▸ List.mem_map_of_mem hr
    exact absurd (beq_iff_eq.1 selected) (h _ inTable)

/-- Settles O42: no row selects the word, so it does not decode, and the step is the refusal, which makes no call. -/
theorem reservedWordsAreRefused : Obligations.ReservedWordsAreRefused := by
  intro s w rest noRow free issued
  obtain ⟨why, hd⟩ := decode_reserved noRow
  refine ⟨(s.accept rest).refuseWord, ?_, ⟨rfl, rfl⟩, ⟨rfl, rfl⟩, ⟨rfl, rfl⟩, ⟨rfl, rfl⟩, rfl, rfl⟩
  rw [Machine.step_word s w rest free issued, hd]

end Sys2Proof
end

section
/-! The CRC engine's operations (spec/40_crc_engine.md R71 to R74). Each meaning is one update of one register; a span of CRC_BYTEs folds
`crcStep` over the accumulator, which after CRC_INIT is `crc8`. -/

namespace Sys2Proof.Machine

open Sys2Proof.Claims

/-! ## The iterations of CRC_BYTE -/

theorem crcShifts_eq_iterate (k : Nat) (x : Byte) : crcShifts k x = crcShift^[k] x := by
  induction k generalizing x with
  | zero => rfl
  | succ k ih => exact ih (crcShift x)

theorem encode_crcByte (d : Byte) : encode (.crcByte d) = 0x02000000 ||| d.setWidth 32 := by
  simp [encode, commandWord]

/-! ## What each operation leaves -/

theorem exec_crcInit (s : State) : exec .crcInit s = .next (s.setAcc crcInitVal).done := rfl

theorem exec_crcByte (d : Byte) (s : State) : exec (.crcByte d) s = .next (s.setAcc (crcStep s.acc d)).done := rfl

theorem exec_crcRead (s : State) : exec .crcRead s = .next (s.setVal (zext32 s.acc)).done := rfl

/-- CRC_INIT and CRC_BYTE end with STATUS 0, and besides STATUS and `busy` only `acc` is written. -/
theorem setAcc_done_frame (s : State) (v : Byte) :
    endedWith (s.setAcc v).done 0 ∧ noCall s (s.setAcc v).done ∧ (s.setAcc v).done.integrityEnabled = s.integrityEnabled ∧
      keepsVal s (s.setAcc v).done ∧ keepsBuf s (s.setAcc v).done ∧ keepsFixed s (s.setAcc v).done :=
  ⟨⟨rfl, rfl⟩, ⟨rfl, rfl⟩, rfl, ⟨rfl, rfl⟩, ⟨rfl, rfl, rfl⟩, ⟨rfl, rfl⟩⟩

/-- CRC_READ ends with STATUS 0, and besides STATUS and `busy` only VAL is written. -/
theorem setVal_done_frame (s : State) (v : Word) :
    valIs (s.setVal v).done v ∧ endedWith (s.setVal v).done 0 ∧ noCall s (s.setVal v).done ∧ keepsControl s (s.setVal v).done ∧
      keepsBuf s (s.setVal v).done ∧ keepsFixed s (s.setVal v).done :=
  ⟨⟨rfl, rfl⟩, ⟨rfl, rfl⟩, ⟨rfl, rfl⟩, ⟨rfl, rfl⟩, ⟨rfl, rfl, rfl⟩, ⟨rfl, rfl⟩⟩

/-- Settles O8. -/
theorem crcInitClearsTheAccumulator : Obligations.CrcInitClearsTheAccumulator :=
  ⟨(decode_eq_ok_iff_eq_encode _ _).2 rfl, fun s => ⟨_, exec_crcInit s, rfl, setAcc_done_frame s crcInitVal⟩⟩

/-- Settles O9: the obligation's iterated function is `crcShift` written out. -/
theorem crcByteShiftsEightTimes : Obligations.CrcByteShiftsEightTimes :=
  ⟨fun d => (decode_eq_ok_iff_eq_encode _ _).2 (encode_crcByte d).symm,
    fun d s => ⟨_, exec_crcByte d s, crcShifts_eq_iterate 8 (s.acc ^^^ d), setAcc_done_frame s (crcStep s.acc d)⟩⟩

/-- Settles O10. -/
theorem crcReadDeliversTheAccumulator : Obligations.CrcReadDeliversTheAccumulator :=
  ⟨(decode_eq_ok_iff_eq_encode _ _).2 rfl,
    fun s => ⟨_, exec_crcRead s, setVal_done_frame s (zext32 s.acc)⟩⟩

/-! ## The CRC of a span (R74) -/

theorem runAll_cons {i : Instr} {s t : State} (h : exec i s = .next t) (is : List Instr) : runAll (i :: is) s = runAll is t := by
  rw [runAll, h]

/-- CRC_BYTE after an operation of the engine: only the accumulator differs from what that operation left. -/
theorem exec_crcByte_setAcc_done (d a : Byte) (s : State) :
    exec (.crcByte d) (s.setAcc a).done = .next (s.setAcc (crcStep a d)).done := rfl

/-- The CRC_BYTEs of a span fold the step over the accumulator, first byte first. -/
theorem runAll_crcBytes (span : List Byte) (rest : List Instr) (s : State) (a : Byte) :
    runAll (span.map Instr.crcByte ++ rest) (s.setAcc a).done = runAll rest (s.setAcc (span.foldl crcStep a)).done := by
  induction span generalizing a with
  | nil => rfl
  | cons d span ih => exact (runAll_cons (exec_crcByte_setAcc_done d a s) _).trans (ih (crcStep a d))

theorem run_crc8 (span : List Byte) (s : State) :
    Pseudo.run (.crc8 span) s = .next ((s.setAcc (crc8 span)).done.setVal (zext32 (crc8 span))).done := by
  calc Pseudo.run (.crc8 span) s
      = runAll (span.map Instr.crcByte ++ [Instr.crcRead]) (s.setAcc crcInitVal).done := runAll_cons (exec_crcInit s) _
    _ = runAll [.crcRead] (s.setAcc (crc8 span)).done := runAll_crcBytes span [.crcRead] s crcInitVal
    _ = .next ((s.setAcc (crc8 span)).done.setVal (zext32 (crc8 span))).done := runAll_cons (exec_crcRead _) []

/-! ## Who writes the accumulator (R20) -/

theorem MadeCalls.acc_eq {s u : State} (calls : MadeCalls s u) : u.acc = s.acc := by
  induction calls with
  | none => rfl
  | call _ c ih => rw [State.transact_acc, ih]

theorem Stored.acc_eq {i : Instr} {u w : State} (stored : Stored i u w) (hi : ¬ writesAcc i) : w.acc = u.acc := by
  cases stored with
  | crcInit => exact absurd (.inl rfl) hi
  | crcByte d => exact absurd (.inr ⟨d, rfl⟩) hi
  | _ => rfl

theorem exec_acc_eq {i : Instr} {s t : State} (h : exec i s = .next t) (hi : ¬ writesAcc i) : t.acc = s.acc := by
  cases exec_ends h with
  | failed calls e => exact calls.acc_eq
  | succeeded calls stored => exact (stored.acc_eq hi).trans calls.acc_eq

/-- Settles O7: the span by induction over its bytes, the accumulator's frame from the ends of an operation. -/
theorem crcOperationsComputeCrc8 : Obligations.CrcOperationsComputeCrc8 := by
  refine ⟨rfl, fun span s => ⟨_, run_crc8 span s, rfl, ?_⟩, fun _ _ _ => exec_acc_eq⟩
  obtain ⟨-, -, flag, -, buf, fixed⟩ := setAcc_done_frame s (crc8 span)
  obtain ⟨val, ended, call, -, -, -⟩ := setVal_done_frame (s.setAcc (crc8 span)).done (zext32 (crc8 span))
  exact ⟨val, ended, flag, buf, fixed, call⟩

end Sys2Proof.Machine
end

section
/-! The scalar result (spec/41_register_access.md R88). Composing bytes never carries: the value of the bytes that follow stays below
the first byte's place. So the addition of `compose` is an or, which gives the shifting form, and up to four bytes do not reach the end of
the word, which gives the sum. -/

namespace Sys2Proof

/-- A byte put in front of a value of `k` bytes gives a value of `k + 1` bytes. -/
theorem toNat_mul_add_lt (d : Byte) {v k : Nat} (hv : v < 2 ^ (8 * k)) : d.toNat * 2 ^ (8 * k) + v < 2 ^ (8 * (k + 1)) := by
  have hd : d.toNat + 1 ≤ 2 ^ 8 := d.isLt
  calc d.toNat * 2 ^ (8 * k) + v
      < (d.toNat + 1) * 2 ^ (8 * k) := by rw [Nat.add_mul, Nat.one_mul]; exact Nat.add_lt_add_left hv _
    _ ≤ 2 ^ 8 * 2 ^ (8 * k) := Nat.mul_le_mul_right _ hd
    _ = 2 ^ (8 * (k + 1)) := by rw [← pow_add, Nat.mul_succ, Nat.add_comm]

/-- What a byte adds to the value of the bytes after it, before the word's end is considered. -/
theorem toNat_compose_cons_mod (d : Byte) (ds : List Byte) :
    (compose (d :: ds)).toNat = (d.toNat * 2 ^ (8 * ds.length) + (compose ds).toNat) % 2 ^ 32 := by
  have widened : (zext32 d).toNat = d.toNat := BitVec.toNat_setWidth_of_le (by decide)
  rw [compose, BitVec.toNat_add, BitVec.toNat_shiftLeft, widened, Nat.shiftLeft_eq, Nat.mod_add_mod]

theorem toNat_compose_lt (data : List Byte) : (compose data).toNat < 2 ^ (8 * data.length) := by
  induction data with
  | nil => decide
  | cons d ds ih =>
    rw [toNat_compose_cons_mod]
    exact (Nat.mod_le _ _).trans_lt (toNat_mul_add_lt d ih)

/-- Up to four bytes, nothing is lost at the word's end. -/
theorem toNat_compose_cons (d : Byte) {ds : List Byte} (h : ds.length + 1 ≤ 4) :
    (compose (d :: ds)).toNat = d.toNat * 2 ^ (8 * ds.length) + (compose ds).toNat := by
  have inWord : 2 ^ (8 * (ds.length + 1)) ≤ 2 ^ 32 := Nat.pow_le_pow_right (by decide) (by omega)
  rw [toNat_compose_cons_mod, Nat.mod_eq_of_lt ((toNat_mul_add_lt d (toNat_compose_lt ds)).trans_le inWord)]

theorem toNat_compose_eq_sum (data : List Byte) (h : data.length ≤ 4) :
    (compose data).toNat =
      ((List.range data.length).map fun i => (data.getD i 0).toNat * 2 ^ (8 * (data.length - 1 - i))).sum := by
  induction data with
  | nil => rfl
  | cons d ds ih =>
    rw [toNat_compose_cons d h, ih (by simp at h; omega), List.length_cons, List.range_succ_eq_map]
    simp [Function.comp_def, Nat.sub_sub, Nat.add_comm]

/-! ## The shifting form -/

theorem shiftLeft_and_eq_zero_of_lt (x : Word) {y : Word} {m : Nat} (hy : y.toNat < 2 ^ m) : x <<< m &&& y = 0 := by
  apply BitVec.eq_of_getLsbD_eq
  intro i _
  rcases Nat.lt_or_ge i m with below | above
  · simp [below]
  · have clear : y.getLsbD i = false := Nat.testBit_lt_two_pow (hy.trans_le (Nat.pow_le_pow_right (by decide) above))
    simp [clear]

theorem compose_cons_eq_or (d : Byte) (ds : List Byte) :
    compose (d :: ds) = zext32 d <<< (8 * ds.length) ||| compose ds :=
  BitVec.add_eq_or_of_and_eq_zero _ _ (shiftLeft_and_eq_zero_of_lt _ (toNat_compose_lt ds))

/-- One step of the shifting form of R88. -/
def shiftIn (acc : Word) (d : Byte) : Word := (acc <<< 8) ||| d.setWidth 32

/-- Shifting bytes into an accumulator moves it up by their number and leaves their composition below it. -/
theorem foldl_shiftIn (data : List Byte) (acc : Word) :
    data.foldl shiftIn acc = acc <<< (8 * data.length) ||| compose data := by
  induction data generalizing acc with
  | nil => simp [compose]
  | cons d ds ih =>
    have moved : acc <<< 8 <<< (8 * ds.length) = acc <<< (8 * (ds.length + 1)) := by
      rw [← BitVec.shiftLeft_add, Nat.mul_succ, Nat.add_comm]
    rw [List.foldl_cons, ih, compose_cons_eq_or, shiftIn, BitVec.shiftLeft_or_distrib, moved, BitVec.or_assoc, zext32, List.length_cons]

theorem compose_eq_foldl_shiftIn (data : List Byte) : compose data = data.foldl shiftIn 0 := by
  rw [foldl_shiftIn, BitVec.ofNat_eq_ofNat, BitVec.zero_shiftLeft, BitVec.zero_or]

/-- Settles O11: of its three parts only the sum needs the bound of four bytes. -/
theorem composeIsBigEndian : Obligations.ComposeIsBigEndian :=
  fun data _ atMostFour => ⟨toNat_compose_eq_sum data atMostFour, compose_eq_foldl_shiftIn data, toNat_compose_lt data⟩

end Sys2Proof
end

section
/-! Register access (spec/41_register_access.md sections 1 to 3). A read is refused for its count, or makes one call and ends as
`readResult` judges the answer; a send makes one call and ends as it is answered. So an operation ends in one of four shapes: refused,
failed after its call, done, or done with its bytes stored. What each shape leaves is said once, and each rule names the shape it gives. -/

namespace Sys2Proof.Machine

open Sys2Proof.Claims

variable {s : State}

/-! ## What an end leaves -/

theorem code_transport (k : TransportKind) : (ErrorKind.transport k).code = transportCode k := by cases k <;> rfl

/-- An operation refused before any call. -/
theorem raise_frame (s : State) (e : ErrorKind) :
    endedWith (s.raise e) e.code ∧ noCall s (s.raise e) ∧ noDefinedResult (s.raise e) ∧ keepsControl s (s.raise e) ∧
      keepsFixed s (s.raise e) :=
  ⟨⟨rfl, rfl⟩, ⟨rfl, rfl⟩, ⟨rfl, rfl⟩, ⟨rfl, rfl⟩, ⟨rfl, rfl⟩⟩

/-- An operation that failed after its one call. -/
theorem transact_raise_frame (s : State) (c : BusCall) (e : ErrorKind) :
    endedWith ((s.transact c).raise e) e.code ∧ noDefinedResult ((s.transact c).raise e) ∧ oneCall s ((s.transact c).raise e) c ∧
      keepsControl s ((s.transact c).raise e) ∧ keepsFixed s ((s.transact c).raise e) :=
  ⟨⟨rfl, rfl⟩, ⟨rfl, rfl⟩, ⟨rfl, rfl⟩, ⟨rfl, rfl⟩, ⟨rfl, rfl⟩⟩

theorem transact_raise_transport_frame (s : State) (c : BusCall) (k : TransportKind) :
    endedWith ((s.transact c).raise (.transport k)) (transportCode k) ∧ noDefinedResult ((s.transact c).raise (.transport k)) ∧
      oneCall s ((s.transact c).raise (.transport k)) c ∧ keepsControl s ((s.transact c).raise (.transport k)) ∧
      keepsFixed s ((s.transact c).raise (.transport k)) :=
  code_transport k ▸ transact_raise_frame s c (.transport k)

/-- An operation that succeeded after its one call and stores nothing. -/
theorem transact_done_frame (s : State) (c : BusCall) :
    endedWith (s.transact c).done 0 ∧ oneCall s (s.transact c).done c ∧ keepsVal s (s.transact c).done ∧
      keepsBuf s (s.transact c).done ∧ keepsControl s (s.transact c).done ∧ keepsFixed s (s.transact c).done :=
  ⟨⟨rfl, rfl⟩, ⟨rfl, rfl⟩, ⟨rfl, rfl⟩, ⟨rfl, rfl, rfl⟩, ⟨rfl, rfl⟩, ⟨rfl, rfl⟩⟩

/-! ## The address bytes and the frames of a protected access (R52, R54, R55) -/

theorem toNat_setWidth_shiftLeft_one (addr : BitVec 7) : (addr.setWidth 8 <<< 1).toNat = 2 * addr.toNat := by
  have inByte := addr.isLt
  rw [BitVec.toNat_shiftLeft, BitVec.toNat_setWidth_of_le (by decide), Nat.shiftLeft_eq]
  omega

theorem addrRead_eq_ar (s : State) : addrRead s.params.devAddr = ar s := by
  have lowBit : 2 * s.params.devAddr.toNat ||| 1 = 2 * s.params.devAddr.toNat + 1 :=
    (Nat.two_pow_add_eq_or_of_lt (i := 1) (by decide) _).symm
  have inByte := s.params.devAddr.isLt
  apply BitVec.eq_of_toNat_eq
  rw [addrRead, BitVec.toNat_or, toNat_setWidth_shiftLeft_one, ar, BitVec.toNat_ofNat, Nat.mod_eq_of_lt (by omega)]
  exact lowBit

theorem addrWrite_eq_aw (s : State) : addrWrite s.params.devAddr = aw s := by
  have inByte := s.params.devAddr.isLt
  apply BitVec.eq_of_toNat_eq
  rw [addrWrite, BitVec.ofNat_eq_ofNat, BitVec.or_zero, toNat_setWidth_shiftLeft_one, aw, BitVec.toNat_ofNat,
    Nat.mod_eq_of_lt (by omega)]

theorem readDomain_eq (s : State) (data : List Byte) : readDomain s.params.devAddr data = ar s :: data := by
  rw [readDomain, addrRead_eq_ar]

theorem writeFrame_eq_framed (s : State) (protect : Bool) (w : List Byte) : writeFrame s protect w = framed s protect w := by
  rw [writeFrame, framed, protectedWrite, writeDomain, addrWrite_eq_aw]

/-! ## What the flag says of a read -/

theorem readLen_plain (flag : s.integrityEnabled = false) (n : Nat) : readLen s.integrityEnabled n = n := by rw [flag]; rfl

theorem readLen_protected (flag : s.integrityEnabled = true) (n : Nat) : readLen s.integrityEnabled n = n + 1 := by rw [flag]; rfl

theorem deviceBytes_plain (flag : s.integrityEnabled = false) (data : List Byte) : deviceBytes s data = data := by
  rw [deviceBytes, flag]; rfl

theorem deviceBytes_protected (flag : s.integrityEnabled = true) (data : List Byte) :
    deviceBytes s data = data ++ [crc8 (ar s :: data)] := by
  rw [deviceBytes, flag]; rfl

theorem reads_plain (flag : s.integrityEnabled = false) (reg n : Byte) : reads s [reg] n.toNat = s.registerCall reg n := by
  rw [State.registerCall, readLen_plain flag]; rfl

theorem reads_protected (flag : s.integrityEnabled = true) (reg n : Byte) :
    reads s [reg] (n.toNat + 1) = s.registerCall reg n := by
  rw [State.registerCall, readLen_protected flag]; rfl

/-! ## How a read judges its answer -/

theorem readResult_plain (flag : s.integrityEnabled = false) (n : Nat) (bytes : List Byte) : readResult s n (.ok bytes) = .ok bytes := by
  simp [readResult, flag]

/-- A protected read compares the byte after the data with the CRC of the read domain (R90). -/
theorem readResult_protected (flag : s.integrityEnabled = true) (data : List Byte) (r : Byte) :
    readResult s data.length (.ok (data ++ [r])) = if r = crc8 (ar s :: data) then .ok data else .error .integrity := by
  simp [readResult, flag, checkCrc, readDomain_eq]

/-- What a device gives to a read of `data` is judged to be `data`, in either setting of the flag. -/
theorem readResult_deviceBytes (s : State) (data : List Byte) : readResult s data.length (.ok (deviceBytes s data)) = .ok data := by
  cases flag : s.integrityEnabled with
  | false => rw [deviceBytes_plain flag, readResult_plain flag]
  | true => rw [deviceBytes_protected flag, readResult_protected flag, if_pos rfl]

/-- The transport gives as many bytes as the call asks for (D9): under protection the count and one more. -/
theorem length_eq_of_answerTo_append {reg n r : Byte} {data : List Byte} (flag : s.integrityEnabled = true)
    (answer : s.answerTo (s.registerCall reg n) = .ok (data ++ [r])) : data.length = n.toNat := by
  have counted := answerTo_readCall_length s _ _ _ answer
  rw [List.length_append, List.length_singleton, readLen_protected flag] at counted
  exact Nat.succ_injective counted

theorem length_eq_of_answerTo_deviceBytes {reg n : Byte} {data : List Byte}
    (answer : s.answerTo (s.registerCall reg n) = .ok (deviceBytes s data)) : data.length = n.toNat := by
  cases flag : s.integrityEnabled with
  | false =>
    rw [deviceBytes_plain flag] at answer
    exact (answerTo_readCall_length s _ _ _ answer).trans (readLen_plain flag _)
  | true =>
    rw [deviceBytes_protected flag] at answer
    exact length_eq_of_answerTo_append flag answer

/-- A read that the device answers in its framing delivers as many bytes as were asked for. -/
theorem readResult_of_answerTo_deviceBytes {reg n : Byte} {data : List Byte}
    (answer : s.answerTo (s.registerCall reg n) = .ok (deviceBytes s data)) :
    readResult s n.toNat (s.answerTo (s.registerCall reg n)) = .ok data := by
  rw [answer, ← length_eq_of_answerTo_deviceBytes answer, readResult_deviceBytes]

/-! ## How a read ends -/

/-- The two operations that read a register. -/
def isRead (i : Instr) (reg n : Byte) : Prop := i = .rdScalar reg n ∨ i = .rdBuf reg n

theorem exec_read_of_illegal {i : Instr} {reg n : Byte} (hi : isRead i reg n)
    (illegal : i.wellFormed s.params.rxbuf s.integrityEnabled = false) : exec i s = .next (s.raise .argument) := by
  rcases hi with rfl | rfl
  · rw [Instr.wellFormed] at illegal
    rw [exec, execRdScalar, if_neg (Bool.eq_false_iff.mp illegal)]
  · rw [Instr.wellFormed] at illegal
    rw [exec, execRdBuf, if_neg (Bool.eq_false_iff.mp illegal)]

theorem exec_read_of_error {i : Instr} {reg n : Byte} {e : ErrorKind} (hi : isRead i reg n)
    (legal : i.wellFormed s.params.rxbuf s.integrityEnabled = true)
    (failed : readResult s n.toNat (s.answerTo (s.registerCall reg n)) = .error e) :
    exec i s = .next ((s.transact (s.registerCall reg n)).raise e) := by
  rcases hi with rfl | rfl
  · rw [Instr.wellFormed] at legal
    rw [exec, execRdScalar, if_pos legal, readBytes_eq, failed, conclude_error]
  · rw [Instr.wellFormed] at legal
    rw [exec, execRdBuf, if_pos legal, readBytes_eq, failed, conclude_error]

theorem exec_rdScalar_of_ok {reg n : Byte} {data : List Byte} (legal : scalarCountOk n = true)
    (read : readResult s n.toNat (s.answerTo (s.registerCall reg n)) = .ok data) :
    exec (.rdScalar reg n) s = .next (((s.transact (s.registerCall reg n)).setVal (compose data)).setBuf data).done := by
  rw [exec, execRdScalar, if_pos legal, readBytes_eq, read, conclude_ok]

theorem exec_rdBuf_of_ok {reg n : Byte} {data : List Byte} (legal : bufCountOk s.params.rxbuf s.integrityEnabled n = true)
    (read : readResult s n.toNat (s.answerTo (s.registerCall reg n)) = .ok data) :
    exec (.rdBuf reg n) s = .next ((s.transact (s.registerCall reg n)).setBuf data).done := by
  rw [exec, execRdBuf, if_pos legal, readBytes_eq, read, conclude_ok]

/-! ## Refused counts and failing reads -/

/-- Settles O16: both illegal counts are the operands that are not well formed. -/
theorem illegalCountIsRefusedBeforeTheBus : Obligations.IllegalCountIsRefusedBeforeTheBus := by
  intro s i reg n h
  refine ⟨_, ?_, raise_frame s .argument⟩
  rcases h with ⟨rfl, outside⟩ | ⟨rfl, outside⟩
  · refine exec_read_of_illegal (.inl rfl) (Bool.eq_false_iff.mpr fun legal => ?_)
    have inside := scalarCountOk_iff.mp legal
    omega
  · refine exec_read_of_illegal (.inr rfl) (Bool.eq_false_iff.mpr fun legal => ?_)
    have inside := bufCountOk_iff.mp legal
    rw [readLen] at inside
    omega

/-- The legal counts of R86, as the statements write them. -/
theorem isRead_and_wellFormed {i : Instr} {reg n : Byte}
    (h : (i = .rdScalar reg n ∧ 1 ≤ n.toNat ∧ n.toNat ≤ 4) ∨
      (i = .rdBuf reg n ∧ 1 ≤ n.toNat ∧ readLen s.integrityEnabled n.toNat ≤ s.params.rxbuf)) :
    isRead i reg n ∧ i.wellFormed s.params.rxbuf s.integrityEnabled = true := by
  rcases h with ⟨rfl, legal⟩ | ⟨rfl, legal⟩
  · exact ⟨.inl rfl, scalarCountOk_iff.mpr legal⟩
  · exact ⟨.inr rfl, bufCountOk_iff.mpr legal⟩

/-- Settles O17. -/
theorem readReportsTheTransportError : Obligations.ReadReportsTheTransportError := by
  intro s i reg n k h answer
  obtain ⟨hi, legal⟩ := isRead_and_wellFormed h
  have failed : readResult s n.toNat (s.answerTo (s.registerCall reg n)) = .error (.transport k) :=
    congrArg (readResult s n.toNat) answer
  exact ⟨_, exec_read_of_error hi legal failed, transact_raise_transport_frame s _ k⟩

/-- Settles O18. -/
theorem protectedReadRejectsAWrongCrc : Obligations.ProtectedReadRejectsAWrongCrc := by
  intro s i reg n r data flag h answer wrong
  rw [reads_protected flag] at answer ⊢
  rw [← readLen_protected flag] at h
  obtain ⟨hi, legal⟩ := isRead_and_wellFormed h
  have failed : readResult s n.toNat (s.answerTo (s.registerCall reg n)) = .error .integrity := by
    rw [answer, ← length_eq_of_answerTo_append flag answer, readResult_protected flag, if_neg wrong]
  exact ⟨_, exec_read_of_error hi legal failed, transact_raise_frame s _ .integrity⟩

/-! ## Reads that succeed -/

theorem rxbuf_le {p : Params} (h : p.wellFormed = true) : p.rxbuf ≤ 63 := by
  simp only [Params.wellFormed, Bool.and_eq_true, decide_eq_true_eq] at h
  obtain ⟨⟨⟨-, atMost⟩, -⟩, -⟩ := h
  exact atMost

/-- Bytes that fit RBUF are counted by RLEN and stand at the front of RBUF (R19). -/
theorem bufIs_setBuf_done {data : List Byte} (legal : s.params.wellFormed = true) (fits : data.length ≤ s.params.rxbuf) :
    bufIs (s.setBuf data).done data := by
  have inSixBits : data.length < 2 ^ 6 := Nat.lt_succ_of_le (fits.trans (rxbuf_le legal))
  exact ⟨(BitVec.toNat_ofNat _ _).trans (Nat.mod_eq_of_lt inSixBits), setBuf_rbuf_length data s, setBuf_rbuf_take data s fits, rfl⟩

/-- RD_SCALAR in either setting of the flag. -/
theorem exec_rdScalar_of_deviceBytes {reg n : Byte} {data : List Byte} (params : s.params.wellFormed = true)
    (nonzero : 1 ≤ n.toNat) (atMostFour : n.toNat ≤ 4) (answer : s.answerTo (s.registerCall reg n) = .ok (deviceBytes s data)) :
    ∃ t, exec (.rdScalar reg n) s = .next t ∧ data.length = n.toNat ∧ valIs t (compose data) ∧ bufIs t data ∧ endedWith t 0 ∧
      oneCall s t (s.registerCall reg n) ∧ keepsControl s t ∧ keepsFixed s t := by
  have counted := length_eq_of_answerTo_deviceBytes answer
  have fits : data.length ≤ s.params.rxbuf := by
    have roomForFive := five_le_rxbuf params
    omega
  exact ⟨_, exec_rdScalar_of_ok (scalarCountOk_iff.mpr ⟨nonzero, atMostFour⟩) (readResult_of_answerTo_deviceBytes answer), counted,
    ⟨rfl, rfl⟩, bufIs_setBuf_done params fits, ⟨rfl, rfl⟩, ⟨rfl, rfl⟩, ⟨rfl, rfl⟩, ⟨rfl, rfl⟩⟩

/-- RD_BUF in either setting of the flag. -/
theorem exec_rdBuf_of_deviceBytes {reg n : Byte} {data : List Byte} (params : s.params.wellFormed = true)
    (nonzero : 1 ≤ n.toNat) (inBuffer : readLen s.integrityEnabled n.toNat ≤ s.params.rxbuf)
    (answer : s.answerTo (s.registerCall reg n) = .ok (deviceBytes s data)) :
    ∃ t, exec (.rdBuf reg n) s = .next t ∧ data.length = n.toNat ∧ bufIs t data ∧ endedWith t 0 ∧ keepsVal s t ∧
      oneCall s t (s.registerCall reg n) ∧ keepsControl s t ∧ keepsFixed s t := by
  have counted := length_eq_of_answerTo_deviceBytes answer
  have fits : data.length ≤ s.params.rxbuf := counted ▸ (readLen_ge _ _).trans inBuffer
  exact ⟨_, exec_rdBuf_of_ok (bufCountOk_iff.mpr ⟨nonzero, inBuffer⟩) (readResult_of_answerTo_deviceBytes answer), counted,
    bufIs_setBuf_done params fits, ⟨rfl, rfl⟩, ⟨rfl, rfl⟩, ⟨rfl, rfl⟩, ⟨rfl, rfl⟩, ⟨rfl, rfl⟩⟩

/-- Settles O12. -/
theorem rdScalarPlainDeliversTheBytes : Obligations.RdScalarPlainDeliversTheBytes := by
  intro s reg n data params flag nonzero atMostFour answer
  rw [reads_plain flag] at answer ⊢
  exact exec_rdScalar_of_deviceBytes params nonzero atMostFour (by rwa [deviceBytes_plain flag])

/-- Settles O13. -/
theorem rdScalarProtectedDeliversTheBytes : Obligations.RdScalarProtectedDeliversTheBytes := by
  intro s reg n data params flag nonzero atMostFour answer
  rw [reads_protected flag] at answer ⊢
  exact exec_rdScalar_of_deviceBytes params nonzero atMostFour (by rwa [deviceBytes_protected flag])

/-- Settles O14. -/
theorem rdBufPlainDeliversTheBytes : Obligations.RdBufPlainDeliversTheBytes := by
  intro s reg n data params flag nonzero inBuffer answer
  rw [reads_plain flag] at answer ⊢
  exact exec_rdBuf_of_deviceBytes params nonzero ((readLen_plain flag _).trans_le inBuffer) (by rwa [deviceBytes_plain flag])

/-- Settles O15. -/
theorem rdBufProtectedDeliversTheBytes : Obligations.RdBufProtectedDeliversTheBytes := by
  intro s reg n data params flag nonzero inBuffer answer
  rw [reads_protected flag] at answer ⊢
  exact exec_rdBuf_of_deviceBytes params nonzero ((readLen_protected flag _).trans_le inBuffer)
    (by rwa [deviceBytes_protected flag])

/-! ## How a send ends -/

/-- A send is the write of its bytes: WR_BYTE of its frame (R95), the commands of their opcode, never framed (R106, R107). -/
inductive Sends (s : State) : Instr → List Byte → Prop where
  | wrByte (reg v : Byte) : Sends s (.wrByte reg v) (framed s (s.integrityEnabled && s.params.wrByteUsesSelector) [reg, v])
  | cmd8 (op : Byte) : Sends s (.cmd8 op) [op]
  | cmd16 (op16 : HalfWord) : Sends s (.cmd16 op16) (cmd16Frame op16)

theorem Sends.exec_eq {i : Instr} {w : List Byte} (h : Sends s i w) :
    exec i s = .next (conclude (busWrite w s) fun _ t => t) := by
  cases h with
  | wrByte reg v => rw [exec, execWrByte_eq, writeFrame_eq_framed]
  | cmd8 op => rfl
  | cmd16 op16 => rfl

theorem writes_eq_writeCall (s : State) (w : List Byte) : writes s w = s.writeCall w := rfl

theorem Sends.exec_of_ok {i : Instr} {w bytes : List Byte} (h : Sends s i w) (answer : s.answerTo (writes s w) = .ok bytes) :
    exec i s = .next (s.transact (writes s w)).done := by
  rw [writes_eq_writeCall] at answer ⊢
  rw [h.exec_eq, conclude_busWrite, answer]

theorem Sends.exec_of_err {i : Instr} {w : List Byte} {k : TransportKind} (h : Sends s i w)
    (answer : s.answerTo (writes s w) = .err k) : exec i s = .next ((s.transact (writes s w)).raise (.transport k)) := by
  rw [writes_eq_writeCall] at answer ⊢
  rw [h.exec_eq, conclude_busWrite, answer]

/-- Settles O21. -/
theorem wrByteSendsItsFrame : Obligations.WrByteSendsItsFrame :=
  fun s reg v _ answer => ⟨_, (Sends.wrByte reg v).exec_of_ok answer, transact_done_frame s _⟩

/-- Settles O24. -/
theorem sendReportsTheTransportError : Obligations.SendReportsTheTransportError := by
  intro s i w k h answer
  have sends : Sends s i w := by
    rcases h with ⟨reg, v, rfl, rfl⟩ | ⟨op, rfl, rfl⟩ | ⟨op16, rfl, rfl⟩
    · exact .wrByte reg v
    · exact .cmd8 op
    · exact .cmd16 op16
  exact ⟨_, sends.exec_of_err answer, transact_raise_transport_frame s _ k⟩

end Sys2Proof.Machine
end

section
/-! What a failure leaves (spec/41_register_access.md R99, spec/60_exceptions.md R158). A failed operation is some transport calls and then
an error: the calls only add to the trace, and the error leaves no result register defined, so each read of one by the host faults. -/

namespace Sys2Proof.Machine

open Sys2Proof.Claims

variable {s u : State}

theorem MadeCalls.params_eq (calls : MadeCalls s u) : u.params = s.params := by
  induction calls with
  | none => rfl
  | call _ c ih => rw [State.transact_params, ih]

theorem MadeCalls.host_eq (calls : MadeCalls s u) : u.host = s.host := by
  induction calls with
  | none => rfl
  | call _ c ih => rw [State.transact_host, ih]

/-- A call stands in the trace after those made before it. -/
theorem MadeCalls.trace_isPrefix (calls : MadeCalls s u) : s.trace <+: u.trace := by
  induction calls with
  | none => exact ⟨[], List.append_nil _⟩
  | call _ c ih => exact ih.trans ⟨_, rfl⟩

theorem hostVal_of_not_defined (h : s.valDefined = false) : s.hostVal = .error .valUndefined := by
  simp [State.hostVal, h]

theorem hostRlen_of_not_defined (h : s.bufDefined = false) : s.hostRlen = .error .rlenUndefined := by
  simp [State.hostRlen, h]

theorem hostRbuf_of_not_defined (h : s.bufDefined = false) (j : Nat) : s.hostRbuf j = .error (.rbufUndefined j) := by
  simp [State.hostRbuf, h]

/-- Settles O32: an operation that ends with STATUS not 0 raised its error after some calls. -/
theorem failureLeavesNoDefinedResult : Obligations.FailureLeavesNoDefinedResult := by
  intro i s t h failed
  cases exec_ends h with
  | failed calls e =>
    exact ⟨⟨calls.acc_eq, calls.integrityEnabled_eq⟩, ⟨calls.params_eq, calls.host_eq⟩, ⟨rfl, rfl⟩, rfl, calls.trace_isPrefix,
      hostVal_of_not_defined rfl, hostRlen_of_not_defined rfl, hostRbuf_of_not_defined rfl⟩
  | succeeded => exact absurd rfl failed

end Sys2Proof.Machine
end

section
/-! Commands (spec/42_command_and_mode.md section 1). CMD8 and CMD16 are sends of their opcode's bytes, and the five subcommands are CMD16
with a fixed opcode, so each ends as its one write is answered. What is left to say is which bytes those are (R39, R107). -/

namespace Sys2Proof.Machine

open Sys2Proof.Claims

variable {s t : State}

/-- A value is the pair of its bytes. -/
theorem eq_pair_of_toNat_eq {v : HalfWord} {hi lo : Byte} (h : v.toNat = 256 * hi.toNat + lo.toNat) : v = pair hi lo := by
  rw [pair, ← h, BitVec.ofNat_toNat, BitVec.setWidth_eq]

/-- The low byte of a 16-bit opcode goes first (R39, R56). -/
theorem cmd16Frame_pair (hi lo : Byte) : cmd16Frame (pair hi lo) = [lo, hi] := by
  have low : BitVec.ofNat 8 ((256 * hi.toNat + lo.toNat) / 2 ^ 0) = lo := by bv_omega
  have high : BitVec.ofNat 8 ((256 * hi.toNat + lo.toNat) / 2 ^ 8) = hi := by bv_omega
  rw [cmd16Frame, pair, extractLsb'_ofNat_of_le (by decide), extractLsb'_ofNat_of_le (by decide), low, high]

/-- Settles O22. -/
theorem cmd8SendsOneByte : Obligations.Cmd8SendsOneByte :=
  fun s op _ answer => ⟨_, (Sends.cmd8 op).exec_of_ok answer, transact_done_frame s _⟩

/-- Settles O23. -/
theorem cmd16SendsTheLowByteFirst : Obligations.Cmd16SendsTheLowByteFirst := by
  intro s op16 lo hi bytes value answer
  have sends : Sends s (.cmd16 op16) [lo, hi] := by
    rw [eq_pair_of_toNat_eq value, ← cmd16Frame_pair hi lo]
    exact .cmd16 _
  exact ⟨_, sends.exec_of_ok answer, transact_done_frame s _⟩

/-- A subcommand is CMD16 with its opcode (R109). -/
theorem run_send_of_exec {c : Subcommand} (h : exec (.cmd16 c.opcode) s = .next t) : Pseudo.run (.send c) s = .next t := by
  rw [Pseudo.run, Pseudo.expand, runAll, h]
  rfl

/-- Settles O25. -/
theorem subcommandsSendTheirOpcodes : Obligations.SubcommandsSendTheirOpcodes := by
  intro s c w bytes h answer
  have frame : cmd16Frame c.opcode = w := by
    rcases h with ⟨rfl, rfl⟩ | ⟨rfl, rfl⟩ | ⟨rfl, rfl⟩ | ⟨rfl, rfl⟩ | ⟨rfl, rfl⟩ <;> decide
  have sends : Sends s (.cmd16 c.opcode) w := frame ▸ .cmd16 c.opcode
  exact ⟨_, run_send_of_exec (sends.exec_of_ok answer), transact_done_frame s _⟩

end Sys2Proof.Machine
end

section
/-! Integrity mode control (spec/42_command_and_mode.md sections 2 and 3). INTEG_EN and INTEG_DIS are one read-modify-write of `0x9017`;
they differ in the change of the value and in what they store into the flag. Such a toggle ends with its read, with its write, or with its
results stored, and each of the three ends is a rule below. -/

namespace Sys2Proof.Machine

open Sys2Proof.Claims

variable {s : State} {i : Instr} {change : HalfWord → HalfWord} {flag : Bool}

/-! ## The value of `0x9017` (R57, R114) -/

theorem cfgValue_pair (hi lo : Byte) : cfgValue [hi, lo] = pair hi lo := by
  have sum : (compose [hi, lo]).toNat = 256 * hi.toNat + lo.toNat := by
    rw [toNat_compose_cons hi (by simp), toNat_compose_cons lo (by simp)]
    simp [compose, Nat.mul_comm]
  apply BitVec.eq_of_toNat_eq
  rw [cfgValue, BitVec.toNat_setWidth, sum, pair, BitVec.toNat_ofNat]

theorem getLsbD_setBit0 (v : HalfWord) (j : Nat) : (setBit0 v).getLsbD j = (v.getLsbD j || decide (j = 0)) := by
  simp [setBit0, BitVec.getLsbD_one]

theorem getLsbD_clearBit0 (v : HalfWord) (j : Nat) : (clearBit0 v).getLsbD j = (v.getLsbD j && decide (j ≠ 0)) := by
  have mask : (0xFFFE : HalfWord) = ~~~1#16 := by decide
  rcases Nat.lt_or_ge j 16 with inside | outside
  · rw [clearBit0, mask, BitVec.getLsbD_and, BitVec.getLsbD_not, BitVec.getLsbD_one]
    simp [inside]
  · rw [BitVec.getLsbD_of_ge _ _ outside, BitVec.getLsbD_of_ge _ _ outside, Bool.false_and]

/-- Two values that agree in bit 0 and in the bits above it are equal. -/
theorem eq_of_getLsbD_zero_eq {v w : HalfWord} (bit0 : v.getLsbD 0 = w.getLsbD 0)
    (above : ∀ j, 1 ≤ j → v.getLsbD j = w.getLsbD j) : v = w := by
  apply BitVec.eq_of_getLsbD_eq
  intro j _
  cases j with
  | zero => exact bit0
  | succ k => exact above _ (Nat.succ_pos k)

theorem eq_setBit0 {v w : HalfWord} (bit0 : w.getLsbD 0 = true) (above : ∀ j, 1 ≤ j → w.getLsbD j = v.getLsbD j) :
    w = setBit0 v := by
  refine eq_of_getLsbD_zero_eq ?_ fun j hj => ?_
  · simp only [bit0, getLsbD_setBit0, decide_true, Bool.or_true]
  · simp [getLsbD_setBit0, above j hj, Nat.ne_of_gt hj]

theorem eq_clearBit0 {v w : HalfWord} (bit0 : w.getLsbD 0 = false) (above : ∀ j, 1 ≤ j → w.getLsbD j = v.getLsbD j) :
    w = clearBit0 v := by
  refine eq_of_getLsbD_zero_eq ?_ fun j hj => ?_
  · simp only [bit0, getLsbD_clearBit0, ne_eq, not_true, decide_false, Bool.and_false]
  · simp [getLsbD_clearBit0, above j hj, Nat.ne_of_gt hj]

/-! ## The two calls (R110, R111) -/

theorem cfgReads_eq_cfgReadCall (s : State) : cfgReads s = s.cfgReadCall := rfl

theorem cfgWrites_eq_cfgWriteCall (s : State) (w : HalfWord) : cfgWrites s w = s.cfgWriteCall w := by
  rw [cfgWrites, ← writeFrame_eq_framed]
  rfl

/-- The read of `0x9017` that the device answers in its framing succeeds. -/
theorem readResult_cfgReads {hi lo : Byte} (read : s.answerTo (cfgReads s) = .ok (deviceBytes s [hi, lo])) :
    readResult s 2 (s.answerTo s.cfgReadCall) = .ok [hi, lo] := by
  rw [← cfgReads_eq_cfgReadCall, read]
  exact readResult_deviceBytes s [hi, lo]

/-! ## What an end after two calls leaves -/

theorem transact_transact_raise_transport_frame (s : State) (c d : BusCall) (k : TransportKind) :
    endedWith (((s.transact c).transact d).raise (.transport k)) (transportCode k) ∧
      noDefinedResult (((s.transact c).transact d).raise (.transport k)) ∧
      twoCalls s (((s.transact c).transact d).raise (.transport k)) c d ∧
      keepsControl s (((s.transact c).transact d).raise (.transport k)) ∧
      keepsFixed s (((s.transact c).transact d).raise (.transport k)) :=
  ⟨⟨code_transport k, rfl⟩, ⟨rfl, rfl⟩, ⟨by simp, rfl⟩, ⟨rfl, rfl⟩, ⟨rfl, rfl⟩⟩

/-! ## How a toggle ends (R112, R113, R115) -/

/-- `Toggles i change flag`: the toggle `i` writes `0x9017` back as `change` makes it and, when both calls succeeded, stores `flag`. -/
inductive Toggles : Instr → (HalfWord → HalfWord) → Bool → Prop where
  | integEn : Toggles .integEn setBit0 true
  | integDis : Toggles .integDis clearBit0 false

theorem exists_toggles_of_isToggle (h : isToggle i) : ∃ change flag, Toggles i change flag := by
  rcases h with rfl | rfl
  · exact ⟨_, _, .integEn⟩
  · exact ⟨_, _, .integDis⟩

namespace Toggles

theorem exec_eq (h : Toggles i change flag) (s : State) :
    exec i s = .next (conclude (cfgModify change s) fun w t => (t.setIntegrity flag).setVal (zext32 w)) := by
  cases h with
  | integEn => rfl
  | integDis => rfl

theorem exec_of_read_error {e : ErrorKind} (h : Toggles i change flag)
    (failed : readResult s 2 (s.answerTo (cfgReads s)) = .error e) : exec i s = .next ((s.transact (cfgReads s)).raise e) := by
  rw [cfgReads_eq_cfgReadCall] at failed ⊢
  rw [h.exec_eq, cfgModify_eq, failed, conclude_error]

/-- After a read that succeeds the toggle ends as its write-back is answered. -/
theorem exec_of_read_ok {hi lo : Byte} (h : Toggles i change flag)
    (read : s.answerTo (cfgReads s) = .ok (deviceBytes s [hi, lo])) :
    exec i s = .next (conclude
      ((writeOutcome ((s.transact (cfgReads s)).answerTo (cfgWrites s (change (pair hi lo))))).map fun _ => change (pair hi lo),
        (s.transact (cfgReads s)).transact (cfgWrites s (change (pair hi lo))))
      fun w t => (t.setIntegrity flag).setVal (zext32 w)) := by
  rw [h.exec_eq, cfgModify_eq, readResult_cfgReads read, cfgReads_eq_cfgReadCall, cfgWrites_eq_cfgWriteCall, ← cfgValue_pair]

theorem exec_of_write_err {hi lo : Byte} {k : TransportKind} (h : Toggles i change flag)
    (read : s.answerTo (cfgReads s) = .ok (deviceBytes s [hi, lo]))
    (failed : (s.transact (cfgReads s)).answerTo (cfgWrites s (change (pair hi lo))) = .err k) :
    exec i s =
      .next (((s.transact (cfgReads s)).transact (cfgWrites s (change (pair hi lo)))).raise (.transport k)) := by
  rw [h.exec_of_read_ok read, failed, writeOutcome_err, Except.map, conclude_error]

theorem exec_of_ok {hi lo : Byte} {bytes : List Byte} (h : Toggles i change flag)
    (read : s.answerTo (cfgReads s) = .ok (deviceBytes s [hi, lo]))
    (written : (s.transact (cfgReads s)).answerTo (cfgWrites s (change (pair hi lo))) = .ok bytes) :
    exec i s =
      .next ((((s.transact (cfgReads s)).transact (cfgWrites s (change (pair hi lo)))).setIntegrity flag).setVal
        (zext32 (change (pair hi lo)))).done := by
  rw [h.exec_of_read_ok read, written, writeOutcome_ok, Except.map, conclude_ok]

/-- A toggle whose two calls succeed, with the whole of what it leaves. -/
theorem exec_of_ok_frame {hi lo : Byte} {w : HalfWord} {bytes : List Byte} (h : Toggles i change flag) (hw : w = change (pair hi lo))
    (read : s.answerTo (cfgReads s) = .ok (deviceBytes s [hi, lo]))
    (written : (s.transact (cfgReads s)).answerTo (cfgWrites s w) = .ok bytes) :
    ∃ t, exec i s = .next t ∧ t.integrityEnabled = flag ∧ valIs t (w.setWidth 32) ∧ endedWith t 0 ∧
      twoCalls s t (cfgReads s) (cfgWrites s w) ∧ t.acc = s.acc ∧ keepsBuf s t ∧ keepsFixed s t := by
  subst hw
  exact ⟨_, h.exec_of_ok read written, rfl, ⟨rfl, rfl⟩, ⟨rfl, rfl⟩, ⟨by simp, rfl⟩, rfl, ⟨rfl, rfl, rfl⟩, ⟨rfl, rfl⟩⟩

end Toggles

/-- Settles O26: a value with bit 0 set and the bits above it kept is `setBit0` of the value read. -/
theorem integEnSetsTheFlag : Obligations.IntegEnSetsTheFlag :=
  fun _ _ _ _ _ bit0 above read written => Toggles.integEn.exec_of_ok_frame (eq_setBit0 bit0 above) read written

/-- Settles O27: a value with bit 0 clear and the bits above it kept is `clearBit0` of the value read. -/
theorem integDisClearsTheFlag : Obligations.IntegDisClearsTheFlag :=
  fun _ _ _ _ _ bit0 above read written => Toggles.integDis.exec_of_ok_frame (eq_clearBit0 bit0 above) read written

/-- Settles O28: the transport's error and a wrong CRC are the two errors of the read. -/
theorem toggleStopsWhenItsReadFails : Obligations.ToggleStopsWhenItsReadFails := by
  intro s i code hi cause
  obtain ⟨change, flag, toggle⟩ := exists_toggles_of_isToggle hi
  rcases cause with ⟨k, answer, rfl⟩ | ⟨protect, rfl, hi, lo, r, answer, wrong⟩
  · have failed : readResult s 2 (s.answerTo (cfgReads s)) = .error (.transport k) := congrArg (readResult s 2) answer
    exact ⟨_, toggle.exec_of_read_error failed, transact_raise_transport_frame s _ k⟩
  · have failed : readResult s 2 (s.answerTo (cfgReads s)) = .error .integrity := by
      rw [answer]
      exact (readResult_protected protect [hi, lo] r).trans (if_neg wrong)
    exact ⟨_, toggle.exec_of_read_error failed, transact_raise_frame s _ .integrity⟩

/-- Settles O29. -/
theorem toggleKeepsTheFlagWhenItsWriteFails : Obligations.ToggleKeepsTheFlagWhenItsWriteFails := by
  intro s hi lo w i k h read failed
  have toggle : ∃ change flag, Toggles i change flag ∧ w = change (pair hi lo) := by
    rcases h with ⟨rfl, rfl⟩ | ⟨rfl, rfl⟩
    · exact ⟨_, _, .integEn, rfl⟩
    · exact ⟨_, _, .integDis, rfl⟩
  obtain ⟨change, flag, toggle, rfl⟩ := toggle
  exact ⟨_, toggle.exec_of_write_err read failed, transact_transact_raise_transport_frame s _ _ k⟩

end Sys2Proof.Machine
end

section
/-! Status decode (spec/45_status_decode.md). A status read is one RD_SCALAR, and its decoder sees STATUS and VAL of the state the read
leaves; the rule for a scalar that the device answers in its framing gives both, in either setting of the flag. A decoder of bits is the
same function before and after a mask that keeps the bits it names. -/

namespace Sys2Proof.Machine

open Sys2Proof.Claims

variable {s t : State} {r : DirectReg}

/-! ## What a decoder reports (R125, R129) -/

theorem hostVal_of_defined (h : s.valDefined = true) : s.hostVal = .ok s.val := if_pos h

theorem fail_eq_false_of_status_eq_zero (h : s.status = 0) : s.fail = false := by
  rw [State.fail, h]
  rfl

theorem report_of_status_eq_zero (r : DirectReg) (ok : s.status = 0) (defined : s.valDefined = true) :
    r.report s = .ok (.record (r.decode s.val)) := by
  rw [DirectReg.report, fail_eq_false_of_status_eq_zero ok, hostVal_of_defined defined]
  rfl

/-! ## A status read (R66, R140) -/

/-- STAT_ is RD_SCALAR of its register (R66). -/
theorem run_stat_of_exec (h : exec (.rdScalar r.opcode r.width) s = .next t) : Pseudo.run (.stat r) s = .next t := runAll_cons h []

/-- The registers of R31 have one byte or two. -/
theorem width_eq_one_or_two (r : DirectReg) : r.width = 1 ∨ r.width = 2 := by
  cases r <;> decide

theorem scalarCountOk_width (r : DirectReg) : scalarCountOk r.width = true := by
  rcases width_eq_one_or_two r with h | h <;> rw [h] <;> rfl

/-- A status read that the device answers in its framing completes, and reports the record of the data bytes. -/
theorem run_stat_of_deviceBytes {data : List Byte} (params : s.params.wellFormed = true)
    (answer : s.answerTo (s.registerCall r.opcode r.width) = .ok (deviceBytes s data)) :
    ∃ t, Pseudo.run (.stat r) s = .next t ∧ r.report t = .ok (.record (r.decode (compose data))) := by
  obtain ⟨nonzero, atMostFour⟩ := scalarCountOk_iff.mp (scalarCountOk_width r)
  obtain ⟨t, run, -, ⟨val, defined⟩, -, ⟨ok, -⟩, -⟩ := exec_rdScalar_of_deviceBytes params nonzero atMostFour answer
  exact ⟨t, run_stat_of_exec run, val ▸ report_of_status_eq_zero r ok defined⟩

/-- Settles O54: each block is answered in its own framing, so both read the same data. -/
theorem decodersDoNotSeeTheVariant : Obligations.DecodersDoNotSeeTheVariant := by
  intro r plain protect data plainParams protectParams plainFlag protectFlag plainAnswer protectAnswer
  rw [reads_plain plainFlag, ← deviceBytes_plain plainFlag data] at plainAnswer
  rw [reads_protected protectFlag, ← deviceBytes_protected protectFlag] at protectAnswer
  obtain ⟨t, plainRun, plainReport⟩ := run_stat_of_deviceBytes plainParams plainAnswer
  obtain ⟨u, protectRun, protectReport⟩ := run_stat_of_deviceBytes protectParams protectAnswer
  exact ⟨t, u, plainRun, protectRun, plainReport, protectReport.trans plainReport.symm⟩

/-! ## The named bits (R127, R128, R130, R134, R136, R137) -/

/-- Settles O50: each record is written in the order of its table. -/
theorem decodedBitsAreAtTheirCoordinates : Obligations.DecodedBitsAreAtTheirCoordinates :=
  ⟨fun _ => rfl, fun _ => rfl, fun _ => rfl, fun _ => ⟨rfl, rfl, rfl, rfl, rfl, rfl, rfl, rfl, rfl, rfl⟩, fun _ => rfl, fun _ => rfl,
    fun _ => ⟨rfl, rfl⟩⟩

/-! ## The unnamed bits (R126) -/

/-- A mask that keeps a field whole leaves its value. -/
theorem extractLsb'_and_of_kept {w start len : Nat} (x : BitVec w) {mask : BitVec w}
    (kept : mask.extractLsb' start len = BitVec.allOnes len) : (x &&& mask).extractLsb' start len = x.extractLsb' start len := by
  rw [BitVec.extractLsb'_and, kept, BitVec.and_allOnes]

theorem decSafetyAlertA_and (x : Byte) : decSafetyAlertA (x &&& 0xFC) = decSafetyAlertA x := by
  simp [decSafetyAlertA]

theorem decSafetyB_and (x : Byte) : decSafetyB (x &&& 0xFB) = decSafetyB x := by
  simp [decSafetyB]

theorem decBatteryStatus_and (x : HalfWord) : decBatteryStatus (x &&& 0xBDBE) = decBatteryStatus x := by
  simp [decBatteryStatus, extractLsb'_and_of_kept]

theorem decAlarm_and (x : HalfWord) : decAlarm (x &&& 0xFEC7) = decAlarm x := by
  simp [decAlarm]

theorem decFetControl_and (x : Byte) : decFetControl (x &&& 0x0F) = decFetControl x := by
  simp [decFetControl]

theorem decRegout_and (x : Byte) : decRegout (x &&& 0x1F) = decRegout x := by
  simp [decRegout, extractLsb'_and_of_kept]

/-- A function that a mask does not change takes one value on inputs that agree under the mask. -/
theorem eq_of_and_eq {w : Nat} {α : Type} {f : BitVec w → α} {mask : BitVec w} (masked : ∀ x, f (x &&& mask) = f x)
    (x y : BitVec w) (agree : x &&& mask = y &&& mask) : f x = f y := by
  rw [← masked x, agree, masked y]

/-- Settles O51. -/
theorem unnamedBitsAreIgnored : Obligations.UnnamedBitsAreIgnored :=
  ⟨eq_of_and_eq decSafetyAlertA_and, eq_of_and_eq decSafetyB_and, eq_of_and_eq decBatteryStatus_and, eq_of_and_eq decAlarm_and,
    eq_of_and_eq decFetControl_and, eq_of_and_eq decRegout_and⟩

end Sys2Proof.Machine
end

section
/-! Reset (spec/70_reset_and_hazards.md R175, R176). RLEN is defined and 0 after reset, so every index of RBUF lies outside the bytes the
host may read. -/

namespace Sys2Proof.Machine

variable {s : State}

theorem hostRlen_of_defined (h : s.bufDefined = true) : s.hostRlen = .ok s.rlen := if_pos h

/-- RBUF holds no defined value at or above RLEN (R19). -/
theorem hostRbuf_of_rlen_le {j : Nat} (h : s.rlen.toNat ≤ j) : s.hostRbuf j = .error (.rbufUndefined j) := by
  simp [State.hostRbuf, Nat.not_lt.mpr h]

/-- Settles O46: the construction writes the values of the table, and its RLEN of 0 bounds every index of RBUF. -/
theorem resetValues : Obligations.ResetValues :=
  ⟨rfl, rfl, rfl, rfl, hostVal_of_not_defined rfl, hostRlen_of_defined rfl, fun j => hostRbuf_of_rlen_le (Nat.zero_le j), rfl, rfl⟩

end Sys2Proof.Machine
end

section
/-! The laws of the CRC (spec/40_crc_engine.md section 4). A shift is linear and loses nothing: its bits are the feedback register of R75,
from which the byte shifted is read back. So the step is linear and a bijection in each argument, and a fold of steps inherits both; the
residue and the check of R78 are the kernel of the step, which is `acc = d`. -/

namespace Sys2Proof

/-! ## One shift (R75) -/

/-- The polynomial is added just when the bit shifted out is one. -/
theorem crcShift_eq_xor (x : Byte) : crcShift x = (x <<< 1) ^^^ (if x.getLsbD 7 then crcPoly else 0) := by
  unfold crcShift
  split <;> simp

/-- Settles O1: by the bit shifted out, the shifted byte with or without the polynomial. -/
theorem crcShiftIsTheWiredRegister : Obligations.CrcShiftIsTheWiredRegister := by
  intro t
  rw [crcShift_eq_xor]
  cases out : t.getLsbD 7 with
  | false => simp
  | true => simp [crcPoly]

/-- The bit shifted out stands at bit 0 of the shifted byte, so every bit of the byte can be read back. -/
theorem crcShift_injective : Function.Injective crcShift := by
  intro x y h
  obtain ⟨x0, x1, x2, x3, x4, x5, x6, x7⟩ := crcShiftIsTheWiredRegister x
  obtain ⟨y0, y1, y2, y3, y4, y5, y6, y7⟩ := crcShiftIsTheWiredRegister y
  have bit7 : x.getLsbD 7 = y.getLsbD 7 := by rw [← x0, h, y0]
  have bit0 : (x.getLsbD 0 ^^ x.getLsbD 7) = (y.getLsbD 0 ^^ y.getLsbD 7) := by rw [← x1, h, y1]
  have bit1 : (x.getLsbD 1 ^^ x.getLsbD 7) = (y.getLsbD 1 ^^ y.getLsbD 7) := by rw [← x2, h, y2]
  rw [bit7, Bool.xor_left_inj] at bit0 bit1
  apply BitVec.eq_of_getLsbD_eq
  intro j hj
  interval_cases j
  · exact bit0
  · exact bit1
  · rw [← x3, h, y3]
  · rw [← x4, h, y4]
  · rw [← x5, h, y5]
  · rw [← x6, h, y6]
  · rw [← x7, h, y7]
  · exact bit7

theorem crcShift_xor (x y : Byte) : crcShift (x ^^^ y) = crcShift x ^^^ crcShift y := by
  have feedback : (if (x ^^^ y).getLsbD 7 then crcPoly else 0) =
      (if x.getLsbD 7 then crcPoly else 0) ^^^ (if y.getLsbD 7 then crcPoly else 0) := by
    rw [BitVec.getLsbD_xor]
    cases x.getLsbD 7 <;> cases y.getLsbD 7 <;> simp
  rw [crcShift_eq_xor, crcShift_eq_xor x, crcShift_eq_xor y, feedback, BitVec.shiftLeft_xor_distrib]
  ac_rfl

/-! ## One byte (R72) -/

theorem crcShifts_xor (k : Nat) (x y : Byte) : crcShifts k (x ^^^ y) = crcShifts k x ^^^ crcShifts k y := by
  induction k generalizing x y with
  | zero => rfl
  | succ k ih => rw [crcShifts, crcShift_xor, ih, crcShifts, crcShifts]

theorem crcShifts_zero_byte (k : Nat) : crcShifts k 0 = 0 := by
  have h := crcShifts_xor k 0 0
  rwa [BitVec.xor_self, BitVec.xor_self] at h

theorem crcShifts_injective (k : Nat) : Function.Injective (crcShifts k) := by
  rw [funext (Machine.crcShifts_eq_iterate k)]
  exact crcShift_injective.iterate k

theorem crcStep_xor (a b x y : Byte) : crcStep (a ^^^ b) (x ^^^ y) = crcStep a x ^^^ crcStep b y := by
  have paired : a ^^^ b ^^^ (x ^^^ y) = (a ^^^ x) ^^^ (b ^^^ y) := by ac_rfl
  rw [crcStep, paired, crcShifts_xor, crcStep, crcStep]

theorem crcStep_comm (acc d : Byte) : crcStep acc d = crcStep d acc := by
  rw [crcStep, crcStep, BitVec.xor_comm]

/-- The accumulator acts only through its exclusive or with the byte. -/
theorem crcStep_eq_crcStep_zero (acc d : Byte) : crcStep acc d = crcStep 0 (acc ^^^ d) := by
  rw [crcStep, crcStep, BitVec.ofNat_eq_ofNat, BitVec.zero_xor]

theorem crcStep_injective (acc : Byte) : Function.Injective (crcStep acc) := fun _ _ h =>
  (BitVec.xor_right_inj acc).1 (crcShifts_injective 8 h)

theorem crcStep_self (acc : Byte) : crcStep acc acc = 0 := by
  rw [crcStep, BitVec.xor_self]
  exact crcShifts_zero_byte 8

/-- The step gives zero for no byte but the accumulator itself. -/
theorem crcStep_eq_zero_iff (acc d : Byte) : crcStep acc d = 0 ↔ d = acc := by
  rw [← crcStep_self acc]
  exact (crcStep_injective acc).eq_iff

/-! ## The table (R76) -/

theorem crcTable_eq_map_crcStep : crcTable = (List.range 256).map fun k => crcStep 0 (BitVec.ofNat 8 k) := by decide +kernel

theorem crcTable_getElem? (x : Byte) : crcTable[x.toNat]? = some (crcStep 0 x) := by
  simp [crcTable_eq_map_crcStep, x.isLt]

/-- Settles O2: an entry of the table is a step from zero, and every step is one. -/
theorem crcStepIsTheTableLookup : Obligations.CrcStepIsTheTableLookup :=
  ⟨by rw [crcTable_eq_map_crcStep, List.length_map, List.length_range], crcTable_getElem?,
    fun acc d => by rw [crcTable_getElem?, ← crcStep_eq_crcStep_zero]⟩

/-! ## A span (R74, R77, R78) -/

theorem foldl_crcStep_zipWith_xor {s u : List Byte} (h : s.length = u.length) (a b : Byte) :
    (List.zipWith (· ^^^ ·) s u).foldl crcStep (a ^^^ b) = s.foldl crcStep a ^^^ u.foldl crcStep b := by
  induction s generalizing u a b with
  | nil =>
    cases List.length_eq_zero_iff.1 h.symm
    rfl
  | cons x s ih =>
    cases u with
    | nil => cases h
    | cons y u =>
      rw [List.zipWith_cons_cons, List.foldl_cons, crcStep_xor, ih (Nat.succ_injective h), List.foldl_cons, List.foldl_cons]

theorem foldl_crcStep_injective (s : List Byte) : Function.Injective fun a => s.foldl crcStep a := by
  induction s with
  | nil => exact Function.injective_id
  | cons d s ih =>
    intro a b h
    have steps : crcStep d a = crcStep d b := by
      rw [crcStep_comm d a, crcStep_comm d b]
      exact ih h
    exact crcStep_injective d steps

theorem crc8_append (s u : List Byte) : crc8 (s ++ u) = u.foldl crcStep (crc8 s) := List.foldl_append

theorem crc8_concat (s : List Byte) (r : Byte) : crc8 (s ++ [r]) = crcStep (crc8 s) r := crc8_append s [r]

/-- Settles O3: the initial value is zero, so the fold is linear from it too. -/
theorem crcIsLinear : Obligations.CrcIsLinear :=
  ⟨fun x y => crcStep_xor x y 0 0, fun _ _ h => foldl_crcStep_zipWith_xor h crcInitVal crcInitVal⟩

/-- Settles O4: a leading zero and the CRC itself are bytes equal to the accumulator they meet. -/
theorem crcLeadingZerosResidueAndSingleByte : Obligations.CrcLeadingZerosResidueAndSingleByte := by
  refine ⟨fun s => ?_, fun s => ?_, fun x => rfl, by decide⟩
  · exact congrArg (fun a => s.foldl crcStep a) (crcStep_self crcInitVal)
  · rw [crc8_concat, crcStep_self]

/-- Settles O5: an injective map of a finite type is a bijection, and bytes that follow a change do not undo it. -/
theorem crcDetectsAnyOneChangedByte : Obligations.CrcDetectsAnyOneChangedByte := by
  refine ⟨fun acc => Finite.injective_iff_bijective.1 (crcStep_injective acc), fun d => ?_, fun before after x y changed same => ?_⟩
  · rw [funext fun acc => crcStep_comm acc d]
    exact Finite.injective_iff_bijective.1 (crcStep_injective d)
  · rw [crc8_append, crc8_append] at same
    exact changed (crcStep_injective _ (foldl_crcStep_injective after same))

theorem checkCrc_concat_eq_ok_iff (addr : BitVec 7) (data : List Byte) (r : Byte) :
    Machine.checkCrc addr data.length (data ++ [r]) = .ok data ↔ r = crc8 (readDomain addr data) := by
  simp [Machine.checkCrc]

/-- Settles O6: the residue of a span and a byte is zero just when the byte is the span's CRC, which the framer compares. -/
theorem crcCheckIsTheResidueCheck : Obligations.CrcCheckIsTheResidueCheck := by
  refine ⟨fun domain r => crcStep_eq_zero_iff (crc8 domain) r, fun addr data r => ?_⟩
  rw [checkCrc_concat_eq_ok_iff, crc8_concat]
  exact (crcStep_eq_zero_iff _ r).symm

end Sys2Proof
end

section
/-! How the framer's operations end, read from the state they leave (spec/41_register_access.md section 4, spec/60_exceptions.md sections
1 and 2). The rules above say in which state a family of operations ends for a given answer; here each family has the inversion of its
rules. What STATUS reports and which calls were made then follow without running the operation again. -/

namespace Sys2Proof.Machine

open Sys2Proof.Claims

variable {s t : State} {i : Instr} {reg n : Byte}

/-- An error shows in STATUS (R156). -/
theorem raise_status_ne_zero (s : State) (e : ErrorKind) : (s.raise e).status ≠ 0 := code_ne_zero e

/-! ## What a framed read is judged to be (R89, R90) -/

/-- The two errors of a framed read: the transport's, and under protection a wrong CRC. -/
theorem readResult_eq_error {answer : BusAnswer} {k : Nat} {e : ErrorKind} (h : readResult s k answer = .error e) :
    (∃ kind, answer = .err kind ∧ e = .transport kind) ∨
    (s.integrityEnabled = true ∧ e = .integrity ∧
      ∃ bytes, answer = .ok bytes ∧ bytes[k]? ≠ some (crc8 (ar s :: bytes.take k))) := by
  cases answer with
  | err kind =>
    cases h
    exact .inl ⟨kind, rfl, rfl⟩
  | ok bytes =>
    cases flag : s.integrityEnabled with
    | false =>
      rw [readResult_plain flag] at h
      cases h
    | true =>
      rw [readResult, readOutcome_ok, flag] at h
      obtain ⟨he, wrong⟩ := checkCrc_eq_error h
      rw [readDomain_eq] at wrong
      exact .inr ⟨rfl, he, bytes, rfl, wrong⟩

/-- A framed read that succeeds delivers the first bytes received, and under protection the byte after them is their CRC. -/
theorem readResult_eq_ok {a data : List Byte} {k : Nat}
    (h : readResult s k (s.answerTo (s.readCall a (readLen s.integrityEnabled k))) = .ok data) :
    ∃ bytes, s.answerTo (s.readCall a (readLen s.integrityEnabled k)) = .ok bytes ∧
      bytes.length = readLen s.integrityEnabled k ∧ data = bytes.take k ∧
      (s.integrityEnabled = true → bytes[k]? = some (crc8 (ar s :: bytes.take k))) := by
  cases answer : s.answerTo (s.readCall a (readLen s.integrityEnabled k)) with
  | err kind =>
    rw [answer] at h
    cases h
  | ok bytes =>
    have counted := answerTo_readCall_length s _ _ _ answer
    refine ⟨bytes, rfl, counted, ?_⟩
    rw [answer] at h
    cases flag : s.integrityEnabled with
    | false =>
      rw [readResult_plain flag] at h
      cases h
      rw [readLen_plain flag] at counted
      exact ⟨(List.take_of_length_le counted.le).symm, nofun⟩
    | true =>
      rw [readResult, readOutcome_ok, flag] at h
      obtain ⟨rfl, crc⟩ := checkCrc_eq_ok h
      rw [readDomain_eq] at crc
      exact ⟨rfl, fun _ => crc⟩

/-! ## Reads -/

/-- RD_SCALAR and RD_BUF do one of three things: refuse the count, report an error of their one call, or store the bytes. -/
theorem exec_read_cases (hi : isRead i reg n) (run : exec i s = .next t) :
    (i.wellFormed s.params.rxbuf s.integrityEnabled = false ∧ t = s.raise .argument) ∨
    (i.wellFormed s.params.rxbuf s.integrityEnabled = true ∧
      ∃ e, readResult s n.toNat (s.answerTo (s.registerCall reg n)) = .error e ∧ t = (s.transact (s.registerCall reg n)).raise e) ∨
    (i.wellFormed s.params.rxbuf s.integrityEnabled = true ∧
      ∃ data w, readResult s n.toNat (s.answerTo (s.registerCall reg n)) = .ok data ∧
        Stored i (s.transact (s.registerCall reg n)) w ∧ t = w.done) := by
  rcases hi with rfl | rfl
  · rcases execRdScalar_cases run with ⟨illegal, rfl⟩ | ⟨legal, e, failed, rfl⟩ | ⟨legal, data, read, length, rfl⟩
    · exact .inl ⟨illegal, rfl⟩
    · exact .inr (.inl ⟨legal, e, failed, rfl⟩)
    · exact .inr (.inr ⟨legal, data, _, read, .rdScalar _ legal length, rfl⟩)
  · rcases execRdBuf_cases run with ⟨illegal, rfl⟩ | ⟨legal, e, failed, rfl⟩ | ⟨legal, data, read, length, rfl⟩
    · exact .inl ⟨illegal, rfl⟩
    · exact .inr (.inl ⟨legal, e, failed, rfl⟩)
    · exact .inr (.inr ⟨legal, data, _, read, .rdBuf _ legal length, rfl⟩)

theorem Stored.trace_eq {u w : State} (stored : Stored i u w) : w.trace = u.trace := by
  cases stored <;> rfl

/-- A read that ends with STATUS 0 stored the bytes of its one call. -/
theorem exec_read_of_status_eq_zero (hi : isRead i reg n) (run : exec i s = .next t) (ok : t.status = 0) :
    ∃ data, readResult s n.toNat (s.answerTo (s.registerCall reg n)) = .ok data ∧
      t.trace = s.trace ++ [⟨s.registerCall reg n, s.answerTo (s.registerCall reg n)⟩] := by
  rcases exec_read_cases hi run with ⟨-, rfl⟩ | ⟨-, e, -, rfl⟩ | ⟨-, data, w, read, stored, rfl⟩
  · exact absurd ok (raise_status_ne_zero _ _)
  · exact absurd ok (raise_status_ne_zero _ e)
  · exact ⟨data, read, stored.trace_eq⟩

/-- A read makes its one call, or none when it refuses the count. -/
theorem exec_read_trace (hi : isRead i reg n) (run : exec i s = .next t) :
    t.trace = s.trace ++ [] ∨ t.trace = s.trace ++ [⟨s.registerCall reg n, s.answerTo (s.registerCall reg n)⟩] := by
  rcases exec_read_cases hi run with ⟨-, rfl⟩ | ⟨-, e, -, rfl⟩ | ⟨-, data, w, -, stored, rfl⟩
  · exact .inl (List.append_nil _).symm
  · exact .inr rfl
  · exact .inr stored.trace_eq

/-- What a successful RD_SCALAR leaves in VAL, RLEN and RBUF. -/
theorem exec_rdScalar_of_status_eq_zero (params : s.params.wellFormed = true) (run : exec (.rdScalar reg n) s = .next t)
    (ok : t.status = 0) :
    ∃ data, readResult s n.toNat (s.answerTo (s.registerCall reg n)) = .ok data ∧ t.val = compose data ∧ bufIs t data := by
  rcases execRdScalar_cases run with ⟨-, rfl⟩ | ⟨-, e, -, rfl⟩ | ⟨legal, data, read, length, rfl⟩
  · exact absurd ok (raise_status_ne_zero _ _)
  · exact absurd ok (raise_status_ne_zero _ e)
  · have atMostFour := (scalarCountOk_iff.mp legal).2
    have roomForFive := five_le_rxbuf params
    have fits : data.length ≤ s.params.rxbuf := by omega
    exact ⟨data, read, rfl, bufIs_setBuf_done params fits⟩

theorem exec_rdBuf_of_status_eq_zero (params : s.params.wellFormed = true) (run : exec (.rdBuf reg n) s = .next t)
    (ok : t.status = 0) :
    ∃ data, readResult s n.toNat (s.answerTo (s.registerCall reg n)) = .ok data ∧ bufIs t data := by
  rcases execRdBuf_cases run with ⟨-, rfl⟩ | ⟨-, e, -, rfl⟩ | ⟨legal, data, read, length, rfl⟩
  · exact absurd ok (raise_status_ne_zero _ _)
  · exact absurd ok (raise_status_ne_zero _ e)
  · have fits : data.length ≤ s.params.rxbuf := length ▸ (readLen_ge _ _).trans (bufCountOk_iff.mp legal).2
    exact ⟨data, read, bufIs_setBuf_done params fits⟩

theorem take_rlen_of_bufIs {data : List Byte} (h : bufIs t data) : t.rbuf.take t.rlen.toNat = data := by
  obtain ⟨count, -, front, -⟩ := h
  rw [count, front]

/-- Settles O19: both reads deliver what the one answer of the state is judged to be. -/
theorem scalarIsTheCompositionOfTheBuffer : Obligations.ScalarIsTheCompositionOfTheBuffer := by
  intro s t reg n params run ok
  obtain ⟨data, read, val, buf⟩ := exec_rdScalar_of_status_eq_zero params run ok
  refine ⟨by rw [take_rlen_of_bufIs buf, val], fun u bufRun bufOk => ?_⟩
  obtain ⟨data', read', buf'⟩ := exec_rdBuf_of_status_eq_zero params bufRun bufOk
  cases read.symm.trans read'
  rw [take_rlen_of_bufIs buf', val]

/-! ## Sends -/

/-- A send makes its one call and ends as it is answered. -/
theorem Sends.cases {w : List Byte} (h : Sends s i w) (run : exec i s = .next t) :
    (∃ k, s.answerTo (writes s w) = .err k ∧ t = (s.transact (writes s w)).raise (.transport k)) ∨
    (∃ bytes, s.answerTo (writes s w) = .ok bytes ∧ t = (s.transact (writes s w)).done) := by
  cases answer : s.answerTo (writes s w) with
  | err k =>
    cases run.symm.trans (h.exec_of_err answer)
    exact .inl ⟨k, rfl, rfl⟩
  | ok bytes =>
    cases run.symm.trans (h.exec_of_ok answer)
    exact .inr ⟨bytes, rfl, rfl⟩

theorem Sends.trace_eq {w : List Byte} (h : Sends s i w) (run : exec i s = .next t) :
    t.trace = s.trace ++ [⟨writes s w, s.answerTo (writes s w)⟩] := by
  rcases h.cases run with ⟨k, -, rfl⟩ | ⟨bytes, -, rfl⟩ <;> rfl

/-- The three sends, as the statements write them. -/
theorem exists_sends (h : (∃ reg v, i = .wrByte reg v) ∨ (∃ op, i = .cmd8 op) ∨ ∃ op16, i = .cmd16 op16) (s : State) :
    ∃ w, Sends s i w := by
  rcases h with ⟨reg, v, rfl⟩ | ⟨op, rfl⟩ | ⟨op16, rfl⟩
  · exact ⟨_, .wrByte reg v⟩
  · exact ⟨_, .cmd8 op⟩
  · exact ⟨_, .cmd16 op16⟩

theorem framed_length (s : State) (protect : Bool) (w : List Byte) : (framed s protect w).length = readLen protect w.length := by
  cases protect <;> simp [framed, readLen]

/-- Settles O20: the flag sets the count of a read, and with the selector the frame of a write. -/
theorem theFlagSelectsTheFraming : Obligations.TheFlagSelectsTheFraming := by
  refine ⟨fun s t i reg n hi run ok => ?_, fun s t reg v run => ?_⟩
  · obtain ⟨data, read, trace⟩ := exec_read_of_status_eq_zero hi run ok
    obtain ⟨bytes, answer, counted, -, crc⟩ := readResult_eq_ok read
    exact ⟨bytes, answer ▸ trace, counted, crc⟩
  · refine ⟨_, _, (Sends.wrByte reg v).trace_eq run, fun flag => ?_, fun flag selector => ?_⟩
    · rw [framed_length, flag]
      rfl
    · rw [framed_length, flag, selector]
      rfl

/-! ## Toggles -/

section
variable {change : HalfWord → HalfWord} {flag : Bool}

/-- A toggle ends with its read, with its write, or with its results stored. -/
theorem Toggles.cases (h : Toggles i change flag) (run : exec i s = .next t) :
    (∃ e, readResult s 2 (s.answerTo (cfgReads s)) = .error e ∧ t = (s.transact (cfgReads s)).raise e) ∨
    ∃ data, readResult s 2 (s.answerTo (cfgReads s)) = .ok data ∧
      ((∃ k, (s.transact (cfgReads s)).answerTo (cfgWrites s (change (cfgValue data))) = .err k ∧
        t = ((s.transact (cfgReads s)).transact (cfgWrites s (change (cfgValue data)))).raise (.transport k)) ∨
       ((s.transact (cfgReads s)).answerTo (cfgWrites s (change (cfgValue data))) = .ok [] ∧
        t = ((((s.transact (cfgReads s)).transact (cfgWrites s (change (cfgValue data)))).setIntegrity flag).setVal
          (zext32 (change (cfgValue data)))).done)) := by
  simp only [cfgReads_eq_cfgReadCall, cfgWrites_eq_cfgWriteCall]
  cases run.symm.trans (h.exec_eq s)
  exact conclude_cfgModify_cases change _ s

/-- A toggle that ends with STATUS 0 stored its flag and the value it wrote, and its last call was that write. -/
theorem Toggles.of_status_eq_zero (h : Toggles i change flag) (run : exec i s = .next t) (ok : t.status = 0) :
    t.integrityEnabled = flag ∧ keepsFixed s t ∧
      ∃ v, valIs t ((change v).setWidth 32) ∧ t.trace.getLast? = some ⟨cfgWrites s (change v), .ok []⟩ := by
  rcases h.cases run with ⟨e, -, rfl⟩ | ⟨data, -, ⟨k, -, rfl⟩ | ⟨written, rfl⟩⟩
  · exact absurd ok (raise_status_ne_zero _ e)
  · exact absurd ok (raise_status_ne_zero _ _)
  · exact ⟨rfl, ⟨rfl, rfl⟩, cfgValue data, ⟨rfl, rfl⟩, by simp [written]⟩

/-- A toggle makes its read, and after it at most its write. -/
theorem Toggles.trace_eq (h : Toggles i change flag) (run : exec i s = .next t) :
    ∃ rest, t.trace = s.trace ++ ⟨cfgReads s, s.answerTo (cfgReads s)⟩ :: rest ∧ rest.length ≤ 1 ∧
      ∀ e ∈ rest, ∃ w, e.call = writes s w := by
  rcases h.cases run with ⟨e, -, rfl⟩ | ⟨data, -, ⟨k, -, rfl⟩ | ⟨-, rfl⟩⟩
  · exact ⟨[], rfl, by simp, by simp⟩
  · exact ⟨_, List.append_assoc _ _ _, le_rfl, by simp [cfgWrites]⟩
  · exact ⟨_, List.append_assoc _ _ _, le_rfl, by simp [cfgWrites]⟩

end

/-- The write-back of a block with the same parameters whose flag is set goes out in protected form. -/
theorem cfgWrites_protected (params : t.params = s.params) (flag : t.integrityEnabled = true) (w : HalfWord) :
    cfgWrites t w = writes s (framed s true (s.params.cfgAddrBytes ++ cfgBytes s w)) := by
  simp only [cfgWrites, writes, framed, aw, cfgBytes, params, flag]

/-- Settles O30: INTEG_DIS starts with the flag INTEG_EN stored, so its write goes out in protected form. -/
theorem enableThenDisableLeavesThePlainMode : Obligations.EnableThenDisableLeavesThePlainMode := by
  intro s t u enable enabled disable disabled
  obtain ⟨set, ⟨params, -⟩, -⟩ := Toggles.integEn.of_status_eq_zero enable enabled
  obtain ⟨clear, -, v, val, last⟩ := Toggles.integDis.of_status_eq_zero disable disabled
  rw [cfgWrites_protected params set] at last
  exact ⟨set, clear, clearBit0 v, by simp only [getLsbD_clearBit0, ne_eq, not_true, decide_false, Bool.and_false], val, last⟩

/-! ## The order of the errors (R157) -/

/-- The two data bytes of the configuration read are its first two, whatever follows them. -/
theorem cfgValue_take_two {bytes : List Byte} (h : 2 ≤ bytes.length) :
    cfgValue (bytes.take 2) = pair (bytes.getD 0 0) (bytes.getD 1 0) := by
  match bytes, h with
  | hi :: lo :: rest, _ => exact cfgValue_pair hi lo

/-- The configuration read that succeeds gives the pair of the first two bytes received. -/
theorem readResult_cfgReads_eq_ok {data : List Byte} (h : readResult s 2 (s.answerTo (cfgReads s)) = .ok data) :
    ∃ bytes, s.answerTo (cfgReads s) = .ok bytes ∧ cfgValue data = pair (bytes.getD 0 0) (bytes.getD 1 0) ∧
      (s.integrityEnabled = true → bytes[2]? = some (crc8 (ar s :: bytes.take 2))) := by
  rw [cfgReads_eq_cfgReadCall] at h ⊢
  obtain ⟨bytes, answer, counted, rfl, crc⟩ := readResult_eq_ok h
  exact ⟨bytes, answer, cfgValue_take_two (counted ▸ readLen_ge _ 2), crc⟩

theorem reads_eq_registerCall (s : State) (reg n : Byte) :
    reads s [reg] (if s.integrityEnabled then n.toNat + 1 else n.toNat) = s.registerCall reg n := rfl

theorem Toggles.change_eq {change : HalfWord → HalfWord} {flag : Bool} (h : Toggles i change flag) (v : HalfWord) :
    change v = if i = .integEn then v ||| 0x0001 else v &&& 0xFFFE := by
  cases h with
  | integEn => exact (if_pos rfl).symm
  | integDis => exact (if_neg nofun).symm

/-- Settles O35: each end of a read or a toggle is one branch of the order. -/
theorem theFirstErrorIsTheOneReported : Obligations.TheFirstErrorIsTheOneReported := by
  refine ⟨fun s t i reg n hi run => ?_, fun s t i hi run => ?_⟩
  · rw [reads_eq_registerCall]
    rcases exec_read_cases hi run with ⟨illegal, rfl⟩ | ⟨legal, e, failed, rfl⟩ | ⟨legal, data, w, read, -, rfl⟩
    · rw [if_pos illegal]
      rfl
    · rw [if_neg (ne_false_of_eq_true legal)]
      rcases readResult_eq_error failed with ⟨k, answer, rfl⟩ | ⟨flag, rfl, bytes, answer, wrong⟩
      · rw [answer]
        exact code_transport k
      · rw [answer]
        exact (if_pos ⟨flag, wrong⟩).symm
    · rw [if_neg (ne_false_of_eq_true legal)]
      obtain ⟨bytes, answer, -, -, crc⟩ := readResult_eq_ok read
      rw [answer]
      exact (if_neg fun ⟨flag, wrong⟩ => wrong (crc flag)).symm
  · obtain ⟨change, flag, toggle⟩ := exists_toggles_of_isToggle hi
    simp only [← toggle.change_eq]
    rcases toggle.cases run with ⟨e, failed, rfl⟩ | ⟨data, read, ending⟩
    · rcases readResult_eq_error failed with ⟨k, answer, rfl⟩ | ⟨protect, rfl, bytes, answer, wrong⟩
      · rw [answer]
        exact code_transport k
      · rw [answer]
        exact (if_pos ⟨protect, wrong⟩).symm
    · obtain ⟨bytes, answer, value, crc⟩ := readResult_cfgReads_eq_ok read
      have accepted : ¬ (s.integrityEnabled = true ∧ bytes[2]? ≠ some (crc8 (ar s :: bytes.take 2))) :=
        fun ⟨protect, wrong⟩ => wrong (crc protect)
      rw [value] at ending
      simp only [answer, if_neg accepted]
      rcases ending with ⟨k, failed, rfl⟩ | ⟨written, rfl⟩
      · rw [failed]
        exact code_transport k
      · rw [written]
        rfl

end Sys2Proof.Machine
end

section
/-! What the matrix of spec/10_state.md section 3 says of an operation: the registers a success writes (R20), the codes it can end with
(spec/60_exceptions.md R168), and the calls it makes (spec/70_reset_and_hazards.md R192). Each is a question to the ends of the four
families: the CRC engine's operations, the reads, the sends, and the toggles. -/

namespace Sys2Proof.Machine

open Sys2Proof.Claims

variable {s t u w : State} {i : Instr}

/-! ## What a success writes (R20) -/

/-- What no transport call changes is the same after any number of them. -/
theorem MadeCalls.eq_of_transact {α : Type} {f : State → α} (kept : ∀ u c, f (u.transact c) = f u) (calls : MadeCalls s u) :
    f u = f s := by
  induction calls with
  | none => rfl
  | call _ c ih => exact (kept _ c).trans ih

theorem MadeCalls.keepsVal (calls : MadeCalls s u) : keepsVal s u :=
  ⟨calls.eq_of_transact fun _ _ => rfl, calls.eq_of_transact fun _ _ => rfl⟩

theorem MadeCalls.keepsBuf (calls : MadeCalls s u) : keepsBuf s u :=
  ⟨calls.eq_of_transact fun _ _ => rfl, calls.eq_of_transact fun _ _ => rfl, calls.eq_of_transact fun _ _ => rfl⟩

namespace Stored

theorem keepsFixed (stored : Stored i u w) : keepsFixed u w := by
  cases stored <;> exact ⟨rfl, rfl⟩

theorem keepsVal (stored : Stored i u w) (hi : ¬ writesVal i) : keepsVal u w := by
  cases stored with
  | crcRead => exact absurd (.inl rfl) hi
  | rdScalar => exact absurd (.inr (.inr ⟨_, _, rfl⟩)) hi
  | integEn => exact absurd (.inr (.inl (.inl rfl))) hi
  | integDis => exact absurd (.inr (.inl (.inr rfl))) hi
  | _ => exact ⟨rfl, rfl⟩

theorem valDefined (stored : Stored i u w) (hi : writesVal i) : w.valDefined = true := by
  rcases hi with rfl | (rfl | rfl) | ⟨reg, n, rfl⟩ <;> cases stored <;> rfl

theorem keepsBuf (stored : Stored i u w) (hi : ¬ writesBuf i) : keepsBuf u w := by
  cases stored with
  | rdScalar => exact absurd ⟨_, _, .inl rfl⟩ hi
  | rdBuf => exact absurd ⟨_, _, .inr rfl⟩ hi
  | _ => exact ⟨rfl, rfl, rfl⟩

theorem bufDefined (stored : Stored i u w) (hi : writesBuf i) : w.bufDefined = true := by
  obtain ⟨reg, n, rfl | rfl⟩ := hi <;> cases stored <;> rfl

end Stored

/-- No operation writes the parameters or the host's words. -/
theorem exec_keepsFixed (run : exec i s = .next t) : keepsFixed s t := by
  cases exec_ends run with
  | failed calls e => exact ⟨calls.params_eq, calls.host_eq⟩
  | succeeded calls stored =>
    obtain ⟨params, host⟩ := stored.keepsFixed
    exact ⟨params.trans calls.params_eq, host.trans calls.host_eq⟩

theorem exec_integrityEnabled_eq (run : exec i s = .next t) (hi : ¬ isToggle i) : t.integrityEnabled = s.integrityEnabled := by
  by_contra changed
  obtain ⟨-, ⟨enable, -⟩ | ⟨disable, -⟩⟩ := theFlagChangesOnlyByASuccessfulToggle i s t run changed
  · exact hi (.inl enable)
  · exact hi (.inr disable)

/-- An operation that ends with STATUS 0 stored its results after its calls. -/
theorem exists_stored_of_status_eq_zero (run : exec i s = .next t) (ok : t.status = 0) :
    ∃ u w, MadeCalls s u ∧ Stored i u w ∧ t = w.done := by
  cases exec_ends run with
  | failed calls e => exact absurd ok (raise_status_ne_zero _ e)
  | succeeded calls stored => exact ⟨_, _, calls, stored, rfl⟩

/-- Settles O33: calls write no result register, and what is stored afterwards is the operation's row of the matrix. -/
theorem successWritesOnlyTheMarkedRegisters : Obligations.SuccessWritesOnlyTheMarkedRegisters := by
  intro i s t run ok
  obtain ⟨u, w, calls, stored, rfl⟩ := exists_stored_of_status_eq_zero run ok
  refine ⟨exec_acc_eq run, exec_integrityEnabled_eq run, fun hi => ?_, stored.valDefined, fun hi => ?_, stored.bufDefined,
    exec_keepsFixed run, rfl⟩
  · obtain ⟨val, defined⟩ := stored.keepsVal hi
    obtain ⟨valBefore, definedBefore⟩ := calls.keepsVal
    exact ⟨val.trans valBefore, defined.trans definedBefore⟩
  · obtain ⟨rlen, rbuf, defined⟩ := stored.keepsBuf hi
    obtain ⟨rlenBefore, rbufBefore, definedBefore⟩ := calls.keepsBuf
    exact ⟨rlen.trans rlenBefore, rbuf.trans rbufBefore, defined.trans definedBefore⟩

/-! ## How many calls (R192) -/

/-- The CRC engine's operations succeed and make no call. -/
theorem exec_crcOp (hi : isCrcOp i) (run : exec i s = .next t) : t.status = 0 ∧ t.trace = s.trace := by
  rcases hi with (rfl | ⟨d, rfl⟩) | rfl <;> cases run <;> exact ⟨rfl, rfl⟩

/-- Calls are added at the end of the trace. -/
theorem exec_trace_isPrefix (run : exec i s = .next t) : s.trace <+: t.trace := by
  cases exec_ends run with
  | failed calls e => exact calls.trace_isPrefix
  | succeeded calls stored => exact stored.trace_eq.symm ▸ calls.trace_isPrefix

/-- Settles O36: the events added are the ones each family's inversion names. -/
theorem transportCallsAreCounted : Obligations.TransportCallsAreCounted := by
  intro i s t run
  obtain ⟨events, trace⟩ := exec_trace_isPrefix run
  have added {l : List BusEvent} (h : t.trace = s.trace ++ l) : events = l := List.append_cancel_left (trace.trans h)
  refine ⟨events, trace.symm, fun hi => ?_, fun hi => ?_, fun hi => ?_, fun hi => ?_⟩
  · obtain ⟨-, kept⟩ := exec_crcOp hi run
    exact added (kept.trans (List.append_nil _).symm)
  · obtain ⟨reg, n, hi⟩ := hi
    rcases exec_read_trace hi run with none | one
    · simp [added none]
    · rw [added one]
      exact ⟨le_rfl, fun e he => ⟨[reg], _, congrArg BusEvent.call (List.mem_singleton.1 he)⟩⟩
  · obtain ⟨w, sends⟩ := exists_sends hi s
    rw [added (sends.trace_eq run)]
    exact ⟨rfl, fun e he => ⟨w, congrArg BusEvent.call (List.mem_singleton.1 he)⟩⟩
  · obtain ⟨change, flag, toggle⟩ := exists_toggles_of_isToggle hi
    obtain ⟨rest, calls, atMostOne, written⟩ := toggle.trace_eq run
    exact ⟨_, rest, added calls, atMostOne, ⟨_, _, rfl⟩, written⟩

/-! ## Which code (R168) -/

theorem code_transport_mem (k : TransportKind) : (ErrorKind.transport k).code ∈ ([2, 3, 4] : List (BitVec 4)) := by
  cases k <;> decide

theorem code_transport_ne_five (k : TransportKind) : (ErrorKind.transport k).code ≠ 5 := by
  cases k <;> decide

/-- A framed read fails with the code of a transport error, or under protection with that of a wrong CRC. -/
theorem code_of_readResult_eq_error {answer : BusAnswer} {n : Nat} {e : ErrorKind} (failed : readResult s n answer = .error e) :
    e.code ∈ ([2, 3, 4, 5] : List (BitVec 4)) ∧ (e.code = 5 → s.integrityEnabled = true) := by
  rcases readResult_eq_error failed with ⟨k, -, rfl⟩ | ⟨flag, rfl, -⟩
  · exact ⟨List.mem_append_left [5] (code_transport_mem k), fun five => absurd five (code_transport_ne_five k)⟩
  · exact ⟨by decide, fun _ => flag⟩

/-- A read ends with one of the six codes, and with IntegrityError only under protection. -/
theorem exec_read_status {reg n : Byte} (hi : isRead i reg n) (run : exec i s = .next t) :
    t.status.toNat ≤ 5 ∧ (t.status = 5 → s.integrityEnabled = true) := by
  rcases exec_read_cases hi run with ⟨-, rfl⟩ | ⟨-, e, failed, rfl⟩ | ⟨-, data, w, -, -, rfl⟩
  · exact ⟨code_le_five .argument, nofun⟩
  · exact ⟨code_le_five e, (code_of_readResult_eq_error failed).2⟩
  · exact ⟨Nat.zero_le 5, nofun⟩

theorem Sends.status_mem {w : List Byte} (h : Sends s i w) (run : exec i s = .next t) : t.status ∈ ([0, 2, 3, 4] : List (BitVec 4)) := by
  rcases h.cases run with ⟨k, -, rfl⟩ | ⟨bytes, -, rfl⟩
  · exact List.mem_cons_of_mem 0 (code_transport_mem k)
  · exact List.mem_cons_self

/-- A toggle's count is fixed, so it is never refused. -/
theorem Toggles.status_mem {change : HalfWord → HalfWord} {flag : Bool} (h : Toggles i change flag) (run : exec i s = .next t) :
    t.status ∈ ([0, 2, 3, 4, 5] : List (BitVec 4)) ∧ (t.status = 5 → s.integrityEnabled = true) := by
  rcases h.cases run with ⟨e, failed, rfl⟩ | ⟨data, -, ⟨k, -, rfl⟩ | ⟨-, rfl⟩⟩
  · obtain ⟨code, protect⟩ := code_of_readResult_eq_error failed
    exact ⟨List.mem_cons_of_mem 0 code, protect⟩
  · exact ⟨List.mem_cons_of_mem 0 (List.mem_append_left [5] (code_transport_mem k)),
      fun five => absurd five (code_transport_ne_five k)⟩
  · exact ⟨List.mem_cons_self, nofun⟩

/-! ## Every code of the table occurs (R168) -/

/-- The block after reset with this flag, and with a transport that gives these answers first. -/
def State.answered (flag : Bool) (script : List BusAnswer) : State := { State.reset with integrityEnabled := flag, script := script }

/-- An operation that is not the CRC engine's is a read, a send, or a toggle. -/
theorem isRead_or_sends_or_isToggle (hi : ¬ isCrcOp i) (s : State) :
    (∃ reg n, isRead i reg n) ∨ (∃ w, Sends s i w) ∨ isToggle i := by
  cases i with
  | crcInit => exact absurd (.inl (.inl rfl)) hi
  | crcByte d => exact absurd (.inl (.inr ⟨d, rfl⟩)) hi
  | crcRead => exact absurd (.inr rfl) hi
  | rdScalar reg n => exact .inl ⟨reg, n, .inl rfl⟩
  | rdBuf reg n => exact .inl ⟨reg, n, .inr rfl⟩
  | wrByte reg v => exact .inr (.inl ⟨_, .wrByte reg v⟩)
  | cmd8 op => exact .inr (.inl ⟨_, .cmd8 op⟩)
  | cmd16 op16 => exact .inr (.inl ⟨_, .cmd16 op16⟩)
  | integEn => exact .inr (.inr (.inl rfl))
  | integDis => exact .inr (.inr (.inr rfl))

/-- The counts of the statement are legal with the default parameters in either setting of the flag. -/
theorem wellFormed_of_counts (flag : Bool)
    (scalar : ∀ reg n, i = .rdScalar reg n → 1 ≤ n.toNat ∧ n.toNat ≤ 4)
    (buf : ∀ reg n, i = .rdBuf reg n → 1 ≤ n.toNat ∧ n.toNat ≤ 31) : i.wellFormed Params.default.rxbuf flag = true := by
  cases i with
  | rdScalar reg n => exact scalarCountOk_iff.mpr (scalar reg n rfl)
  | rdBuf reg n =>
    obtain ⟨nonzero, atMost⟩ := buf reg n rfl
    exact bufCountOk_iff.mpr ⟨nonzero, (readLen_le_succ flag n.toNat).trans (Nat.succ_le_succ atMost)⟩
  | _ => rfl

/-- A transport that refuses the first call gives its error to every operation of the framer. -/
theorem exists_exec_of_err (hi : ¬ isCrcOp i) (legal : i.wellFormed Params.default.rxbuf false = true) (k : TransportKind) :
    ∃ t, exec i (.answered false [.err k]) = .next t ∧ t.status = transportCode k := by
  have refused (c : BusCall) : (State.answered false [.err k]).answerTo c = .err k := answerTo_err_script _ c k [] rfl
  rw [← code_transport k]
  rcases isRead_or_sends_or_isToggle hi (.answered false [.err k]) with ⟨reg, n, read⟩ | ⟨w, sends⟩ | toggle
  · exact ⟨_, exec_read_of_error read legal (congrArg (readResult _ n.toNat) (refused _)), rfl⟩
  · exact ⟨_, sends.exec_of_err (refused _), rfl⟩
  · obtain ⟨change, flag, toggle⟩ := exists_toggles_of_isToggle toggle
    exact ⟨_, toggle.exec_of_read_error (congrArg (readResult _ 2) (refused _)), rfl⟩

/-- `n` zero bytes and a byte that is not their CRC. -/
def wrongCrcBytes (n : Nat) : List Byte := List.replicate n 0 ++ [crc8 (ar State.reset :: List.replicate n 0) + 1]

theorem wrongCrcBytes_length (n : Nat) : (wrongCrcBytes n).length = n + 1 := by simp [wrongCrcBytes]

/-- A protected read of `n` bytes rejects them. -/
theorem readResult_wrongCrcBytes (flag : s.integrityEnabled = true) (params : s.params = State.reset.params) (n : Nat) :
    readResult s n (.ok (wrongCrcBytes n)) = .error .integrity := by
  have address : ar s = ar State.reset := by rw [ar, params, ar]
  have judged := readResult_protected flag (List.replicate n 0) (crc8 (ar State.reset :: List.replicate n 0) + 1)
  rw [List.length_replicate, address, if_neg (by simp)] at judged
  exact judged

/-- The block with the flag set, and with a transport that answers a protected read of `n` bytes with a wrong CRC. -/
def State.corrupted (n : Nat) : State := .answered true [.ok (wrongCrcBytes n)]

theorem readResult_corrupted (a : List Byte) (n : Nat) :
    readResult (.corrupted n) n ((State.corrupted n).answerTo ((State.corrupted n).readCall a (readLen true n))) =
      .error .integrity := by
  rw [answerTo_readCall_script _ a _ (readLen true n) [] rfl (wrongCrcBytes_length n)]
  exact readResult_wrongCrcBytes (s := .corrupted n) rfl rfl n

theorem exists_exec_of_wrong_crc (hi : writesBuf i ∨ isToggle i) (legal : i.wellFormed Params.default.rxbuf true = true) :
    ∃ n t, exec i (.corrupted n) = .next t ∧ t.status = 5 := by
  rcases hi with ⟨reg, n, read⟩ | toggle
  · exact ⟨n.toNat, _, exec_read_of_error read legal (readResult_corrupted [reg] n.toNat), rfl⟩
  · obtain ⟨change, flag, toggle⟩ := exists_toggles_of_isToggle toggle
    exact ⟨2, _, toggle.exec_of_read_error (readResult_corrupted _ 2), rfl⟩

/-- A transport that answers the read of `0x9017` and then refuses the write-back. -/
theorem exists_exec_of_write_err (hi : isToggle i) (k : TransportKind) :
    ∃ t, exec i (.answered false [.ok [0, 0], .err k]) = .next t ∧ t.status = transportCode k ∧ t.trace.length = 2 := by
  obtain ⟨change, flag, toggle⟩ := exists_toggles_of_isToggle hi
  have read : (State.answered false [.ok [0, 0], .err k]).answerTo (cfgReads (.answered false [.ok [0, 0], .err k])) = .ok [0, 0] :=
    answerTo_readCall_script _ _ [0, 0] 2 [.err k] rfl rfl
  exact ⟨_, toggle.exec_of_write_err (hi := 0) (lo := 0) read (answerTo_err_script _ _ k [] rfl), code_transport k, rfl⟩

/-- Settles O34: the codes of each family, and for each code a transport from which it comes. -/
theorem eachOperationEndsWithItsOwnErrors : Obligations.EachOperationEndsWithItsOwnErrors := by
  refine ⟨fun i s t run => ⟨fun hi => ?_, fun hi => ?_, fun hi => ?_, fun hi => ?_⟩, fun i hi k code hcode scalar buf => ?_,
    fun i hi k => ?_⟩
  · obtain ⟨ok, -⟩ := exec_crcOp hi run
    exact ok
  · obtain ⟨reg, n, read⟩ := hi
    exact exec_read_status read run
  · obtain ⟨w, sends⟩ := exists_sends hi s
    exact sends.status_mem run
  · obtain ⟨change, flag, toggle⟩ := exists_toggles_of_isToggle hi
    exact toggle.status_mem run
  · rcases hcode with rfl | ⟨rfl, hi⟩
    · obtain ⟨t, run, status⟩ := exists_exec_of_err hi (wellFormed_of_counts false scalar buf) k
      exact ⟨_, t, rfl, run, status⟩
    · obtain ⟨n, t, run, status⟩ := exists_exec_of_wrong_crc hi (wellFormed_of_counts true scalar buf)
      exact ⟨_, t, rfl, run, status⟩
  · obtain ⟨t, run, status, calls⟩ := exists_exec_of_write_err hi k
    exact ⟨_, t, run, status, calls⟩

end Sys2Proof.Machine
end

section
/-! Steps and reset (spec/10_state.md section 4, spec/70_reset_and_hazards.md section 1). A step waits, refuses a word, or runs an
operation, and none of the three can fault; the parameters are written by none of them. -/

namespace Sys2Proof.Machine

variable {s t : State}

/-- Settles O43. -/
theorem stepRunsTheDecodedInstruction : Obligations.StepRunsTheDecodedInstruction := by
  intro s w rest i free issued decoded
  rw [step_word s w rest free issued, decoded]
  rfl

/-- Every operation's meaning is a next state. -/
theorem exists_exec_eq_next (i : Instr) (s : State) : ∃ t, exec i s = .next t := by
  cases i <;> exact ⟨_, rfl⟩

theorem exists_step_eq_next (s : State) : ∃ t, step s = .next t := by
  rw [step]
  cases s.fetch with
  | wait => exact ⟨s, rfl⟩
  | run i taken => exact exists_exec_eq_next i taken
  | reserved why taken => exact ⟨_, rfl⟩

theorem step_params_eq (h : step s = .next t) : t.params = s.params := by
  rcases step_cases h with rfl | ⟨rest, rfl⟩ | ⟨rest, i, run⟩
  · rfl
  · rfl
  · obtain ⟨params, -⟩ := exec_keepsFixed run
    exact params

/-- Settles O45. -/
theorem everyStepGivesANextState : Obligations.EveryStepGivesANextState := by
  intro s
  obtain ⟨t, h⟩ := exists_step_eq_next s
  exact ⟨t, h, step_params_eq h⟩

/-- The construction fills RBUF to RXBUF and leaves RLEN 0 (R176). -/
theorem construct_bufSound {p : Params} (h : p.wellFormed = true) : (State.construct p).BufSound where
  params := h
  rbufLength := List.length_replicate
  rlenBound _ := Nat.zero_le _

/-- Settles O47: the construction is idle with STATUS 0, as an operation that succeeded leaves the block, and its trace is empty. -/
theorem resetIsSound : Obligations.ResetIsSound :=
  fun _ h => ⟨(construct_bufSound h).done_sound, fun _ he => absurd he List.not_mem_nil⟩

end Sys2Proof.Machine
end

section
/-! What a decoder reports (spec/45_status_decode.md sections 1, 3 and 5). A decoder faults just where STATUS is 0 and VAL is not defined;
its own read defines VAL when it succeeds, so after it the decoder reports. The codes of the tables are read bit by bit. -/

namespace Sys2Proof.Machine

open Sys2Proof.Claims

variable {s t : State} {r : DirectReg}

theorem report_of_status_ne_zero (r : DirectReg) (failed : s.status ≠ 0) : r.report s = .ok .readFailed := by
  have fail : s.fail = true := bne_iff_ne.2 failed
  rw [DirectReg.report, if_pos fail]

theorem report_of_not_defined (r : DirectReg) (ok : s.status = 0) (undefined : s.valDefined = false) :
    r.report s = .error .valUndefined := by
  rw [DirectReg.report, fail_eq_false_of_status_eq_zero ok, hostVal_of_not_defined undefined]
  rfl

/-- Settles O53. -/
theorem decodersReportAFailedRead : Obligations.DecodersReportAFailedRead :=
  fun r _ => ⟨report_of_status_ne_zero r, report_of_status_eq_zero r⟩

theorem report_eq_error_iff (r : DirectReg) (s : State) :
    r.report s = .error .valUndefined ↔ s.status = 0 ∧ s.valDefined = false := by
  refine ⟨fun fault => ?_, fun ⟨ok, undefined⟩ => report_of_not_defined r ok undefined⟩
  by_cases ok : s.status = 0
  · refine ⟨ok, Bool.eq_false_iff.2 fun defined => ?_⟩
    cases fault.symm.trans (report_of_status_eq_zero r ok defined)
  · cases fault.symm.trans (report_of_status_ne_zero r ok)

theorem exec_of_run_stat (run : Pseudo.run (.stat r) s = .next t) : exec (.rdScalar r.opcode r.width) s = .next t := by
  obtain ⟨u, h⟩ := exists_exec_eq_next (.rdScalar r.opcode r.width) s
  cases run.symm.trans (run_stat_of_exec h)
  exact h

/-- A status read that ends with STATUS 0 defines VAL (R20). -/
theorem valDefined_of_run_stat (run : Pseudo.run (.stat r) s = .next t) (ok : t.status = 0) : t.valDefined = true := by
  obtain ⟨u, w, -, stored, rfl⟩ := exists_stored_of_status_eq_zero (exec_of_run_stat run) ok
  exact stored.valDefined (.inr (.inr ⟨_, _, rfl⟩))

/-- Settles O55. -/
theorem decodersFaultOnlyWhereNoValueIsDefined : Obligations.DecodersFaultOnlyWhereNoValueIsDefined := by
  refine ⟨fun r s t run => ?_, report_eq_error_iff, fun r => report_of_not_defined r rfl rfl⟩
  by_cases ok : t.status = 0
  · exact .inr ⟨ok, report_of_status_eq_zero r ok (valDefined_of_run_stat run ok)⟩
  · exact .inl ⟨ok, report_of_status_ne_zero r ok⟩

/-! ## The mode, security and voltage tables (R131, R132, R138) -/

theorem decMode_eq (normal configure : Bool) :
    decMode normal configure = if normal then (if configure then .configure else .normal) else .shutdown := by
  cases normal <;> cases configure <;> rfl

theorem decMode_ne_unknown (normal configure : Bool) : decMode normal configure ≠ .unknown := by
  cases normal <;> cases configure <;> nofun

/-- The security level by the two bits of its code. -/
def securityOfBits : Bool → Bool → Security
  | false, false => .uninitialized
  | false, true => .fullAccess
  | true, false => .error
  | true, true => .sealed

theorem decSecurity_eq_securityOfBits : ∀ code : BitVec 2, decSecurity code = securityOfBits (code.getLsbD 1) (code.getLsbD 0) := by
  decide

/-- The voltage by the three bits of its code. -/
def voltageOfBits : Bool → Bool → Bool → Voltage
  | false, _, _ => .v1_8
  | true, false, false => .v2_5
  | true, false, true => .v3_0
  | true, true, false => .v3_3
  | true, true, true => .v5_0

theorem decVoltage_eq_voltageOfBits :
    ∀ code : BitVec 3, decVoltage code = voltageOfBits (code.getLsbD 2) (code.getLsbD 1) (code.getLsbD 0) := by
  decide

/-- Settles O52. -/
theorem modeSecurityAndVoltageTables : Obligations.ModeSecurityAndVoltageTables := by
  refine ⟨fun x => decMode_eq _ _, fun x => decMode_ne_unknown _ _, fun x => ?_, fun x => ?_⟩
  · rw [decBatteryStatus, decSecurity_eq_securityOfBits, BitVec.getLsbD_extractLsb', BitVec.getLsbD_extractLsb']
    rfl
  · rw [decRegout, decVoltage_eq_voltageOfBits, BitVec.getLsbD_extractLsb', BitVec.getLsbD_extractLsb', BitVec.getLsbD_extractLsb']
    rfl

end Sys2Proof.Machine
end
